-- ==== Sys2Proof/Word.lean ====
section
/-! DEFINITION. The word types of the hardware: bytes and 16-bit words (00_scope.md R5, R6). -/

namespace Sys2Proof

/-- A byte: A, X, Y, S, one memory cell, an opcode, an operand byte (R5, R6). -/
abbrev Byte := BitVec 8

/-- A word: PC and every address (R5, R6). -/
abbrev Word := BitVec 16

end Sys2Proof
end

