-- ==== Sys2Proof/Machine/Bits.lean ====
section
/-! DEFINITION. Bit fields, extension and byte order of bytes and words (00_scope.md R6). -/

namespace Sys2Proof.Machine

/-- `lo8(w) = w[7:0]` (R6). -/
def lo8 (w : Word) : Byte := w.extractLsb' 0 8

/-- `hi8(w) = w[15:8]` (R6): the page of an address. -/
def hi8 (w : Word) : Byte := w.extractLsb' 8 8

/-- `hi ∥ lo`, the word `hi * 256 + lo` (R6). -/
def mkWord (hi lo : Byte) : Word := hi ++ lo

/-- `zext_16(b)`: the byte read as a word (R6), an address in page 0. -/
def zext (b : Byte) : Word := b.setWidth 16

/-- `sext_8(b)` as a word, for adding to an address modulo 2^16 (R6). -/
def sext (b : Byte) : Word := b.signExtend 16

/-- The stack address `0x0100 + S` (10_state.md R27): the read-only view SP. -/
def stackAddr (s : Byte) : Word := 0x0100#16 + zext s

end Sys2Proof.Machine
end

