-- ==== Sys2Proof/Config.lean ====
section
/-! DEFINITION. The two implementation parameters of 00_scope.md R5, with the spec's defaults. -/

namespace Sys2Proof

/-- The parameter PROFILE (R2, 92_eei_decisions.md D1): which opcodes the engine decodes. -/
inductive Profile where
  /-- The 151 documented opcodes of the NMOS 6502, the default (R2, 30_encoding.md R84). -/
  | nmos151
  /-- The source document's own four opcodes (R2, 30_encoding.md R85). -/
  | doc4
  deriving DecidableEq, Repr

/-- The parameter DECIMAL_MODE (R5, D12): what ADC and SBC do when D = 1. -/
inductive DecimalMode where
  /-- The NMOS decimal results, the default (42_alu.md R181, R183). -/
  | nmos
  /-- Such an instruction is refused (60_exceptions.md R303). -/
  | refuse
  deriving DecidableEq, Repr

/-- The parameters of one machine. They are plain data that the state carries and no step changes
(log 1), so that one `step` covers every machine R5 describes. -/
structure Config where
  profile     : Profile     := .nmos151
  decimalMode : DecimalMode := .nmos
  deriving DecidableEq, Repr

/-- The default machine (R5). -/
def Config.default : Config := {}

end Sys2Proof
end

