-- ==== Sys2Proof/Syntax.lean ====
section
/-! DEFINITION. The instructions: one constructor per row of spec/opcode_table.json (30_encoding.md R84),
with its operand bytes (R81, R82), and each instruction's mnemonic and addressing mode. -/

namespace Sys2Proof

/-- An instruction of the machine, its operand assembled (R82): `v` an immediate byte, `b` a zero-page
address or pointer, `w` a 16-bit address, `off` the branch offset's byte. Each constructor names the
opcode, the assembler syntax (R88) and the rule that gives its meaning. -/
inductive Instr where
  /-- 0xA1 `LDA ($nn,X)`, (indirect,X), R160. -/
  | ldaIndX (b : Byte)
  /-- 0xA5 `LDA $nn`, zero page, R160. -/
  | ldaZp (b : Byte)
  /-- 0xA9 `LDA #$nn`, immediate, R160. -/
  | ldaImm (v : Byte)
  /-- 0xAD `LDA $nnnn`, absolute, R160. -/
  | ldaAbs (w : Word)
  /-- 0xB1 `LDA ($nn),Y`, (indirect),Y, R160. -/
  | ldaIndY (b : Byte)
  /-- 0xB5 `LDA $nn,X`, zero page,X, R160. -/
  | ldaZpX (b : Byte)
  /-- 0xB9 `LDA $nnnn,Y`, absolute,Y, R160. -/
  | ldaAbsY (w : Word)
  /-- 0xBD `LDA $nnnn,X`, absolute,X, R160. -/
  | ldaAbsX (w : Word)
  /-- 0xA2 `LDX #$nn`, immediate, R161. -/
  | ldxImm (v : Byte)
  /-- 0xA6 `LDX $nn`, zero page, R161. -/
  | ldxZp (b : Byte)
  /-- 0xAE `LDX $nnnn`, absolute, R161. -/
  | ldxAbs (w : Word)
  /-- 0xB6 `LDX $nn,Y`, zero page,Y, R161. -/
  | ldxZpY (b : Byte)
  /-- 0xBE `LDX $nnnn,Y`, absolute,Y, R161. -/
  | ldxAbsY (w : Word)
  /-- 0xA0 `LDY #$nn`, immediate, R162. -/
  | ldyImm (v : Byte)
  /-- 0xA4 `LDY $nn`, zero page, R162. -/
  | ldyZp (b : Byte)
  /-- 0xAC `LDY $nnnn`, absolute, R162. -/
  | ldyAbs (w : Word)
  /-- 0xB4 `LDY $nn,X`, zero page,X, R162. -/
  | ldyZpX (b : Byte)
  /-- 0xBC `LDY $nnnn,X`, absolute,X, R162. -/
  | ldyAbsX (w : Word)
  /-- 0x81 `STA ($nn,X)`, (indirect,X), R163. -/
  | staIndX (b : Byte)
  /-- 0x85 `STA $nn`, zero page, R163. -/
  | staZp (b : Byte)
  /-- 0x8D `STA $nnnn`, absolute, R163. -/
  | staAbs (w : Word)
  /-- 0x91 `STA ($nn),Y`, (indirect),Y, R163. -/
  | staIndY (b : Byte)
  /-- 0x95 `STA $nn,X`, zero page,X, R163. -/
  | staZpX (b : Byte)
  /-- 0x99 `STA $nnnn,Y`, absolute,Y, R163. -/
  | staAbsY (w : Word)
  /-- 0x9D `STA $nnnn,X`, absolute,X, R163. -/
  | staAbsX (w : Word)
  /-- 0x86 `STX $nn`, zero page, R164. -/
  | stxZp (b : Byte)
  /-- 0x8E `STX $nnnn`, absolute, R164. -/
  | stxAbs (w : Word)
  /-- 0x96 `STX $nn,Y`, zero page,Y, R164. -/
  | stxZpY (b : Byte)
  /-- 0x84 `STY $nn`, zero page, R165. -/
  | styZp (b : Byte)
  /-- 0x8C `STY $nnnn`, absolute, R165. -/
  | styAbs (w : Word)
  /-- 0x94 `STY $nn,X`, zero page,X, R165. -/
  | styZpX (b : Byte)
  /-- 0x61 `ADC ($nn,X)`, (indirect,X), R184. -/
  | adcIndX (b : Byte)
  /-- 0x65 `ADC $nn`, zero page, R184. -/
  | adcZp (b : Byte)
  /-- 0x69 `ADC #$nn`, immediate, R184. -/
  | adcImm (v : Byte)
  /-- 0x6D `ADC $nnnn`, absolute, R184. -/
  | adcAbs (w : Word)
  /-- 0x71 `ADC ($nn),Y`, (indirect),Y, R184. -/
  | adcIndY (b : Byte)
  /-- 0x75 `ADC $nn,X`, zero page,X, R184. -/
  | adcZpX (b : Byte)
  /-- 0x79 `ADC $nnnn,Y`, absolute,Y, R184. -/
  | adcAbsY (w : Word)
  /-- 0x7D `ADC $nnnn,X`, absolute,X, R184. -/
  | adcAbsX (w : Word)
  /-- 0xE1 `SBC ($nn,X)`, (indirect,X), R185. -/
  | sbcIndX (b : Byte)
  /-- 0xE5 `SBC $nn`, zero page, R185. -/
  | sbcZp (b : Byte)
  /-- 0xE9 `SBC #$nn`, immediate, R185. -/
  | sbcImm (v : Byte)
  /-- 0xED `SBC $nnnn`, absolute, R185. -/
  | sbcAbs (w : Word)
  /-- 0xF1 `SBC ($nn),Y`, (indirect),Y, R185. -/
  | sbcIndY (b : Byte)
  /-- 0xF5 `SBC $nn,X`, zero page,X, R185. -/
  | sbcZpX (b : Byte)
  /-- 0xF9 `SBC $nnnn,Y`, absolute,Y, R185. -/
  | sbcAbsY (w : Word)
  /-- 0xFD `SBC $nnnn,X`, absolute,X, R185. -/
  | sbcAbsX (w : Word)
  /-- 0x21 `AND ($nn,X)`, (indirect,X), R186. -/
  | andIndX (b : Byte)
  /-- 0x25 `AND $nn`, zero page, R186. -/
  | andZp (b : Byte)
  /-- 0x29 `AND #$nn`, immediate, R186. -/
  | andImm (v : Byte)
  /-- 0x2D `AND $nnnn`, absolute, R186. -/
  | andAbs (w : Word)
  /-- 0x31 `AND ($nn),Y`, (indirect),Y, R186. -/
  | andIndY (b : Byte)
  /-- 0x35 `AND $nn,X`, zero page,X, R186. -/
  | andZpX (b : Byte)
  /-- 0x39 `AND $nnnn,Y`, absolute,Y, R186. -/
  | andAbsY (w : Word)
  /-- 0x3D `AND $nnnn,X`, absolute,X, R186. -/
  | andAbsX (w : Word)
  /-- 0x01 `ORA ($nn,X)`, (indirect,X), R187. -/
  | oraIndX (b : Byte)
  /-- 0x05 `ORA $nn`, zero page, R187. -/
  | oraZp (b : Byte)
  /-- 0x09 `ORA #$nn`, immediate, R187. -/
  | oraImm (v : Byte)
  /-- 0x0D `ORA $nnnn`, absolute, R187. -/
  | oraAbs (w : Word)
  /-- 0x11 `ORA ($nn),Y`, (indirect),Y, R187. -/
  | oraIndY (b : Byte)
  /-- 0x15 `ORA $nn,X`, zero page,X, R187. -/
  | oraZpX (b : Byte)
  /-- 0x19 `ORA $nnnn,Y`, absolute,Y, R187. -/
  | oraAbsY (w : Word)
  /-- 0x1D `ORA $nnnn,X`, absolute,X, R187. -/
  | oraAbsX (w : Word)
  /-- 0x41 `EOR ($nn,X)`, (indirect,X), R188. -/
  | eorIndX (b : Byte)
  /-- 0x45 `EOR $nn`, zero page, R188. -/
  | eorZp (b : Byte)
  /-- 0x49 `EOR #$nn`, immediate, R188. -/
  | eorImm (v : Byte)
  /-- 0x4D `EOR $nnnn`, absolute, R188. -/
  | eorAbs (w : Word)
  /-- 0x51 `EOR ($nn),Y`, (indirect),Y, R188. -/
  | eorIndY (b : Byte)
  /-- 0x55 `EOR $nn,X`, zero page,X, R188. -/
  | eorZpX (b : Byte)
  /-- 0x59 `EOR $nnnn,Y`, absolute,Y, R188. -/
  | eorAbsY (w : Word)
  /-- 0x5D `EOR $nnnn,X`, absolute,X, R188. -/
  | eorAbsX (w : Word)
  /-- 0xC1 `CMP ($nn,X)`, (indirect,X), R189. -/
  | cmpIndX (b : Byte)
  /-- 0xC5 `CMP $nn`, zero page, R189. -/
  | cmpZp (b : Byte)
  /-- 0xC9 `CMP #$nn`, immediate, R189. -/
  | cmpImm (v : Byte)
  /-- 0xCD `CMP $nnnn`, absolute, R189. -/
  | cmpAbs (w : Word)
  /-- 0xD1 `CMP ($nn),Y`, (indirect),Y, R189. -/
  | cmpIndY (b : Byte)
  /-- 0xD5 `CMP $nn,X`, zero page,X, R189. -/
  | cmpZpX (b : Byte)
  /-- 0xD9 `CMP $nnnn,Y`, absolute,Y, R189. -/
  | cmpAbsY (w : Word)
  /-- 0xDD `CMP $nnnn,X`, absolute,X, R189. -/
  | cmpAbsX (w : Word)
  /-- 0xE0 `CPX #$nn`, immediate, R190. -/
  | cpxImm (v : Byte)
  /-- 0xE4 `CPX $nn`, zero page, R190. -/
  | cpxZp (b : Byte)
  /-- 0xEC `CPX $nnnn`, absolute, R190. -/
  | cpxAbs (w : Word)
  /-- 0xC0 `CPY #$nn`, immediate, R191. -/
  | cpyImm (v : Byte)
  /-- 0xC4 `CPY $nn`, zero page, R191. -/
  | cpyZp (b : Byte)
  /-- 0xCC `CPY $nnnn`, absolute, R191. -/
  | cpyAbs (w : Word)
  /-- 0x24 `BIT $nn`, zero page, R192. -/
  | bitZp (b : Byte)
  /-- 0x2C `BIT $nnnn`, absolute, R192. -/
  | bitAbs (w : Word)
  /-- 0xE6 `INC $nn`, zero page, R193. -/
  | incZp (b : Byte)
  /-- 0xEE `INC $nnnn`, absolute, R193. -/
  | incAbs (w : Word)
  /-- 0xF6 `INC $nn,X`, zero page,X, R193. -/
  | incZpX (b : Byte)
  /-- 0xFE `INC $nnnn,X`, absolute,X, R193. -/
  | incAbsX (w : Word)
  /-- 0xC6 `DEC $nn`, zero page, R194. -/
  | decZp (b : Byte)
  /-- 0xCE `DEC $nnnn`, absolute, R194. -/
  | decAbs (w : Word)
  /-- 0xD6 `DEC $nn,X`, zero page,X, R194. -/
  | decZpX (b : Byte)
  /-- 0xDE `DEC $nnnn,X`, absolute,X, R194. -/
  | decAbsX (w : Word)
  /-- 0xE8 `INX`, implied, R195. -/
  | inx
  /-- 0xC8 `INY`, implied, R196. -/
  | iny
  /-- 0xCA `DEX`, implied, R197. -/
  | dex
  /-- 0x88 `DEY`, implied, R198. -/
  | dey
  /-- 0x06 `ASL $nn`, zero page, R199. -/
  | aslZp (b : Byte)
  /-- 0x0A `ASL A`, accumulator, R199. -/
  | aslAcc
  /-- 0x0E `ASL $nnnn`, absolute, R199. -/
  | aslAbs (w : Word)
  /-- 0x16 `ASL $nn,X`, zero page,X, R199. -/
  | aslZpX (b : Byte)
  /-- 0x1E `ASL $nnnn,X`, absolute,X, R199. -/
  | aslAbsX (w : Word)
  /-- 0x46 `LSR $nn`, zero page, R200. -/
  | lsrZp (b : Byte)
  /-- 0x4A `LSR A`, accumulator, R200. -/
  | lsrAcc
  /-- 0x4E `LSR $nnnn`, absolute, R200. -/
  | lsrAbs (w : Word)
  /-- 0x56 `LSR $nn,X`, zero page,X, R200. -/
  | lsrZpX (b : Byte)
  /-- 0x5E `LSR $nnnn,X`, absolute,X, R200. -/
  | lsrAbsX (w : Word)
  /-- 0x26 `ROL $nn`, zero page, R201. -/
  | rolZp (b : Byte)
  /-- 0x2A `ROL A`, accumulator, R201. -/
  | rolAcc
  /-- 0x2E `ROL $nnnn`, absolute, R201. -/
  | rolAbs (w : Word)
  /-- 0x36 `ROL $nn,X`, zero page,X, R201. -/
  | rolZpX (b : Byte)
  /-- 0x3E `ROL $nnnn,X`, absolute,X, R201. -/
  | rolAbsX (w : Word)
  /-- 0x66 `ROR $nn`, zero page, R202. -/
  | rorZp (b : Byte)
  /-- 0x6A `ROR A`, accumulator, R202. -/
  | rorAcc
  /-- 0x6E `ROR $nnnn`, absolute, R202. -/
  | rorAbs (w : Word)
  /-- 0x76 `ROR $nn,X`, zero page,X, R202. -/
  | rorZpX (b : Byte)
  /-- 0x7E `ROR $nnnn,X`, absolute,X, R202. -/
  | rorAbsX (w : Word)
  /-- 0x20 `JSR $nnnn`, absolute, R220. -/
  | jsr (w : Word)
  /-- 0x4C `JMP $nnnn`, absolute, R221. -/
  | jmpAbs (w : Word)
  /-- 0x6C `JMP ($nnnn)`, absolute indirect, R221. -/
  | jmpInd (w : Word)
  /-- 0x60 `RTS`, implied, R222. -/
  | rts
  /-- 0x10 `BPL $nnnn`, relative, R224. -/
  | bpl (off : Byte)
  /-- 0x30 `BMI $nnnn`, relative, R225. -/
  | bmi (off : Byte)
  /-- 0x50 `BVC $nnnn`, relative, R226. -/
  | bvc (off : Byte)
  /-- 0x70 `BVS $nnnn`, relative, R227. -/
  | bvs (off : Byte)
  /-- 0x90 `BCC $nnnn`, relative, R228. -/
  | bcc (off : Byte)
  /-- 0xB0 `BCS $nnnn`, relative, R229. -/
  | bcs (off : Byte)
  /-- 0xD0 `BNE $nnnn`, relative, R230. -/
  | bne (off : Byte)
  /-- 0xF0 `BEQ $nnnn`, relative, R231. -/
  | beq (off : Byte)
  /-- 0x00 `BRK`, implied, R232. -/
  | brk
  /-- 0x40 `RTI`, implied, R233. -/
  | rti
  /-- 0xEA `NOP`, implied, R234. -/
  | nop
  /-- 0x48 `PHA`, implied, R250. -/
  | pha
  /-- 0x68 `PLA`, implied, R251. -/
  | pla
  /-- 0x08 `PHP`, implied, R252. -/
  | php
  /-- 0x28 `PLP`, implied, R253. -/
  | plp
  /-- 0xAA `TAX`, implied, R254. -/
  | tax
  /-- 0xA8 `TAY`, implied, R255. -/
  | tay
  /-- 0x8A `TXA`, implied, R256. -/
  | txa
  /-- 0x98 `TYA`, implied, R257. -/
  | tya
  /-- 0xBA `TSX`, implied, R258. -/
  | tsx
  /-- 0x9A `TXS`, implied, R259. -/
  | txs
  /-- 0x18 `CLC`, implied, R260. -/
  | clc
  /-- 0x38 `SEC`, implied, R261. -/
  | sec
  /-- 0x58 `CLI`, implied, R262. -/
  | cli
  /-- 0x78 `SEI`, implied, R263. -/
  | sei
  /-- 0xD8 `CLD`, implied, R264. -/
  | cld
  /-- 0xF8 `SED`, implied, R265. -/
  | sed
  /-- 0xB8 `CLV`, implied, R266. -/
  | clv
  deriving DecidableEq, Repr

/-- The 56 mnemonics (00_scope.md R2). -/
inductive Mnemonic where
  | LDA | LDX | LDY | STA | STX | STY | ADC | SBC | AND | ORA | EOR | CMP | CPX | CPY
  | BIT | INC | DEC | INX | INY | DEX | DEY | ASL | LSR | ROL | ROR | JSR | JMP | RTS
  | BPL | BMI | BVC | BVS | BCC | BCS | BNE | BEQ | BRK | RTI | NOP | PHA | PLA | PHP
  | PLP | TAX | TAY | TXA | TYA | TSX | TXS | CLC | SEC | CLI | SEI | CLD | SED | CLV
  deriving DecidableEq, Repr

/-- The eight addressing modes that compute an effective address (40_engine.md R127 to R134). -/
inductive AddrMode where
  /-- Zero page, R127. -/
  | zp (b : Byte)
  /-- Zero page,X, R128. -/
  | zpX (b : Byte)
  /-- Zero page,Y, R129. -/
  | zpY (b : Byte)
  /-- Absolute, R130. -/
  | abs (w : Word)
  /-- Absolute,X, R131. -/
  | absX (w : Word)
  /-- Absolute,Y, R132. -/
  | absY (w : Word)
  /-- (Indirect,X), R133. -/
  | indX (b : Byte)
  /-- (Indirect),Y, R134. -/
  | indY (b : Byte)
  deriving DecidableEq, Repr

/-- The thirteen addressing modes (R124 to R136), with the operand. -/
inductive Mode where
  /-- Implied, R124. -/
  | implied
  /-- Accumulator, R125. -/
  | acc
  /-- Immediate, R126. -/
  | imm (v : Byte)
  /-- A mode with an effective address, R127 to R134. -/
  | mem (m : AddrMode)
  /-- Absolute indirect, R135. -/
  | ind (w : Word)
  /-- Relative, R136. -/
  | rel (off : Byte)
  deriving DecidableEq, Repr

/-- How many operand bytes follow the opcode (30_encoding.md R81). -/
def AddrMode.operandBytes : AddrMode → Nat
  | .zp _ => 1
  | .zpX _ => 1
  | .zpY _ => 1
  | .abs _ => 2
  | .absX _ => 2
  | .absY _ => 2
  | .indX _ => 1
  | .indY _ => 1

/-- How many operand bytes follow the opcode (30_encoding.md R81). BRK's padding byte is not one of them:
its handler fetches it (43_control.md R232). -/
def Mode.operandBytes : Mode → Nat
  | .implied => 0
  | .acc => 0
  | .imm _ => 1
  | .mem m => m.operandBytes
  | .ind _ => 2
  | .rel _ => 1

/-- The mnemonic and the addressing mode of each instruction, as its row of the opcode table has them. -/
def Instr.form : Instr → Mnemonic × Mode
  | .ldaIndX b => (.LDA, .mem (.indX b))
  | .ldaZp b => (.LDA, .mem (.zp b))
  | .ldaImm v => (.LDA, .imm v)
  | .ldaAbs w => (.LDA, .mem (.abs w))
  | .ldaIndY b => (.LDA, .mem (.indY b))
  | .ldaZpX b => (.LDA, .mem (.zpX b))
  | .ldaAbsY w => (.LDA, .mem (.absY w))
  | .ldaAbsX w => (.LDA, .mem (.absX w))
  | .ldxImm v => (.LDX, .imm v)
  | .ldxZp b => (.LDX, .mem (.zp b))
  | .ldxAbs w => (.LDX, .mem (.abs w))
  | .ldxZpY b => (.LDX, .mem (.zpY b))
  | .ldxAbsY w => (.LDX, .mem (.absY w))
  | .ldyImm v => (.LDY, .imm v)
  | .ldyZp b => (.LDY, .mem (.zp b))
  | .ldyAbs w => (.LDY, .mem (.abs w))
  | .ldyZpX b => (.LDY, .mem (.zpX b))
  | .ldyAbsX w => (.LDY, .mem (.absX w))
  | .staIndX b => (.STA, .mem (.indX b))
  | .staZp b => (.STA, .mem (.zp b))
  | .staAbs w => (.STA, .mem (.abs w))
  | .staIndY b => (.STA, .mem (.indY b))
  | .staZpX b => (.STA, .mem (.zpX b))
  | .staAbsY w => (.STA, .mem (.absY w))
  | .staAbsX w => (.STA, .mem (.absX w))
  | .stxZp b => (.STX, .mem (.zp b))
  | .stxAbs w => (.STX, .mem (.abs w))
  | .stxZpY b => (.STX, .mem (.zpY b))
  | .styZp b => (.STY, .mem (.zp b))
  | .styAbs w => (.STY, .mem (.abs w))
  | .styZpX b => (.STY, .mem (.zpX b))
  | .adcIndX b => (.ADC, .mem (.indX b))
  | .adcZp b => (.ADC, .mem (.zp b))
  | .adcImm v => (.ADC, .imm v)
  | .adcAbs w => (.ADC, .mem (.abs w))
  | .adcIndY b => (.ADC, .mem (.indY b))
  | .adcZpX b => (.ADC, .mem (.zpX b))
  | .adcAbsY w => (.ADC, .mem (.absY w))
  | .adcAbsX w => (.ADC, .mem (.absX w))
  | .sbcIndX b => (.SBC, .mem (.indX b))
  | .sbcZp b => (.SBC, .mem (.zp b))
  | .sbcImm v => (.SBC, .imm v)
  | .sbcAbs w => (.SBC, .mem (.abs w))
  | .sbcIndY b => (.SBC, .mem (.indY b))
  | .sbcZpX b => (.SBC, .mem (.zpX b))
  | .sbcAbsY w => (.SBC, .mem (.absY w))
  | .sbcAbsX w => (.SBC, .mem (.absX w))
  | .andIndX b => (.AND, .mem (.indX b))
  | .andZp b => (.AND, .mem (.zp b))
  | .andImm v => (.AND, .imm v)
  | .andAbs w => (.AND, .mem (.abs w))
  | .andIndY b => (.AND, .mem (.indY b))
  | .andZpX b => (.AND, .mem (.zpX b))
  | .andAbsY w => (.AND, .mem (.absY w))
  | .andAbsX w => (.AND, .mem (.absX w))
  | .oraIndX b => (.ORA, .mem (.indX b))
  | .oraZp b => (.ORA, .mem (.zp b))
  | .oraImm v => (.ORA, .imm v)
  | .oraAbs w => (.ORA, .mem (.abs w))
  | .oraIndY b => (.ORA, .mem (.indY b))
  | .oraZpX b => (.ORA, .mem (.zpX b))
  | .oraAbsY w => (.ORA, .mem (.absY w))
  | .oraAbsX w => (.ORA, .mem (.absX w))
  | .eorIndX b => (.EOR, .mem (.indX b))
  | .eorZp b => (.EOR, .mem (.zp b))
  | .eorImm v => (.EOR, .imm v)
  | .eorAbs w => (.EOR, .mem (.abs w))
  | .eorIndY b => (.EOR, .mem (.indY b))
  | .eorZpX b => (.EOR, .mem (.zpX b))
  | .eorAbsY w => (.EOR, .mem (.absY w))
  | .eorAbsX w => (.EOR, .mem (.absX w))
  | .cmpIndX b => (.CMP, .mem (.indX b))
  | .cmpZp b => (.CMP, .mem (.zp b))
  | .cmpImm v => (.CMP, .imm v)
  | .cmpAbs w => (.CMP, .mem (.abs w))
  | .cmpIndY b => (.CMP, .mem (.indY b))
  | .cmpZpX b => (.CMP, .mem (.zpX b))
  | .cmpAbsY w => (.CMP, .mem (.absY w))
  | .cmpAbsX w => (.CMP, .mem (.absX w))
  | .cpxImm v => (.CPX, .imm v)
  | .cpxZp b => (.CPX, .mem (.zp b))
  | .cpxAbs w => (.CPX, .mem (.abs w))
  | .cpyImm v => (.CPY, .imm v)
  | .cpyZp b => (.CPY, .mem (.zp b))
  | .cpyAbs w => (.CPY, .mem (.abs w))
  | .bitZp b => (.BIT, .mem (.zp b))
  | .bitAbs w => (.BIT, .mem (.abs w))
  | .incZp b => (.INC, .mem (.zp b))
  | .incAbs w => (.INC, .mem (.abs w))
  | .incZpX b => (.INC, .mem (.zpX b))
  | .incAbsX w => (.INC, .mem (.absX w))
  | .decZp b => (.DEC, .mem (.zp b))
  | .decAbs w => (.DEC, .mem (.abs w))
  | .decZpX b => (.DEC, .mem (.zpX b))
  | .decAbsX w => (.DEC, .mem (.absX w))
  | .inx => (.INX, .implied)
  | .iny => (.INY, .implied)
  | .dex => (.DEX, .implied)
  | .dey => (.DEY, .implied)
  | .aslZp b => (.ASL, .mem (.zp b))
  | .aslAcc => (.ASL, .acc)
  | .aslAbs w => (.ASL, .mem (.abs w))
  | .aslZpX b => (.ASL, .mem (.zpX b))
  | .aslAbsX w => (.ASL, .mem (.absX w))
  | .lsrZp b => (.LSR, .mem (.zp b))
  | .lsrAcc => (.LSR, .acc)
  | .lsrAbs w => (.LSR, .mem (.abs w))
  | .lsrZpX b => (.LSR, .mem (.zpX b))
  | .lsrAbsX w => (.LSR, .mem (.absX w))
  | .rolZp b => (.ROL, .mem (.zp b))
  | .rolAcc => (.ROL, .acc)
  | .rolAbs w => (.ROL, .mem (.abs w))
  | .rolZpX b => (.ROL, .mem (.zpX b))
  | .rolAbsX w => (.ROL, .mem (.absX w))
  | .rorZp b => (.ROR, .mem (.zp b))
  | .rorAcc => (.ROR, .acc)
  | .rorAbs w => (.ROR, .mem (.abs w))
  | .rorZpX b => (.ROR, .mem (.zpX b))
  | .rorAbsX w => (.ROR, .mem (.absX w))
  | .jsr w => (.JSR, .mem (.abs w))
  | .jmpAbs w => (.JMP, .mem (.abs w))
  | .jmpInd w => (.JMP, .ind w)
  | .rts => (.RTS, .implied)
  | .bpl off => (.BPL, .rel off)
  | .bmi off => (.BMI, .rel off)
  | .bvc off => (.BVC, .rel off)
  | .bvs off => (.BVS, .rel off)
  | .bcc off => (.BCC, .rel off)
  | .bcs off => (.BCS, .rel off)
  | .bne off => (.BNE, .rel off)
  | .beq off => (.BEQ, .rel off)
  | .brk => (.BRK, .implied)
  | .rti => (.RTI, .implied)
  | .nop => (.NOP, .implied)
  | .pha => (.PHA, .implied)
  | .pla => (.PLA, .implied)
  | .php => (.PHP, .implied)
  | .plp => (.PLP, .implied)
  | .tax => (.TAX, .implied)
  | .tay => (.TAY, .implied)
  | .txa => (.TXA, .implied)
  | .tya => (.TYA, .implied)
  | .tsx => (.TSX, .implied)
  | .txs => (.TXS, .implied)
  | .clc => (.CLC, .implied)
  | .sec => (.SEC, .implied)
  | .cli => (.CLI, .implied)
  | .sei => (.SEI, .implied)
  | .cld => (.CLD, .implied)
  | .sed => (.SED, .implied)
  | .clv => (.CLV, .implied)

/-- The mnemonic of an instruction. -/
def Instr.mnemonic (i : Instr) : Mnemonic := i.form.1

/-- The addressing mode of an instruction, with its operand. -/
def Instr.mode (i : Instr) : Mode := i.form.2

/-- The instruction's length in bytes: the opcode and its operand bytes (30_encoding.md R80, R81). -/
def Instr.length (i : Instr) : Nat := 1 + i.mode.operandBytes

end Sys2Proof
end

