-- ==== Sys2Proof/WellFormed.lean ====
section
/-! DEFINITION. When an instruction term is an instruction of the machine: the profile decodes it
(00_scope.md R2, 30_encoding.md R85). An operand needs no check: "No operand value is reserved or
illegal" (R87), and the operand types have the exact widths of R81. -/

namespace Sys2Proof

/-- Is the instruction one of `DOC4`'s four (30_encoding.md R85)? -/
def Instr.inDoc4 : Instr → Bool
  | .ldaImm _ => true
  | .ldaZp _ => true
  | .ldaZpX _ => true
  | .jsr _ => true
  | _ => false

/-- The instruction belongs to the profile (R2): every one to NMOS151, four to DOC4. -/
def Instr.wf (p : Profile) (i : Instr) : Bool :=
  match p with
  | .nmos151 => true
  | .doc4 => i.inDoc4

end Sys2Proof
end

