-- ==== Sys2Proof/Decode.lean ====
section
/-! DEFINITION. The decoder (30_encoding.md R80 to R87, 40_engine.md R113), total on any bytes, and the
encoder of a well-formed instruction, written from the instruction rules' own opcode tables. -/

namespace Sys2Proof

open Sys2Proof.Machine (mkWord hi8 lo8)

/-- What the dispatcher finds for an opcode byte (R81, R113): a handler of format F1, F2 or F3, or none.
F2 and F3 take the operand that R82 assembles. -/
inductive Handler where
  | unknown
  | f1 (i : Instr)
  | f2 (mk : Byte → Instr)
  | f3 (mk : Word → Instr)

open Handler in
/-- Row 0x of the opcode map R84. -/
def opcodeRow0 : List Handler :=
  [f1 .brk, f2 .oraIndX, unknown, unknown, unknown, f2 .oraZp, f2 .aslZp, unknown,
   f1 .php, f2 .oraImm, f1 .aslAcc, unknown, unknown, f3 .oraAbs, f3 .aslAbs, unknown]

open Handler in
/-- Row 1x of the opcode map R84. -/
def opcodeRow1 : List Handler :=
  [f2 .bpl, f2 .oraIndY, unknown, unknown, unknown, f2 .oraZpX, f2 .aslZpX, unknown,
   f1 .clc, f3 .oraAbsY, unknown, unknown, unknown, f3 .oraAbsX, f3 .aslAbsX, unknown]

open Handler in
/-- Row 2x of the opcode map R84. -/
def opcodeRow2 : List Handler :=
  [f3 .jsr, f2 .andIndX, unknown, unknown, f2 .bitZp, f2 .andZp, f2 .rolZp, unknown,
   f1 .plp, f2 .andImm, f1 .rolAcc, unknown, f3 .bitAbs, f3 .andAbs, f3 .rolAbs, unknown]

open Handler in
/-- Row 3x of the opcode map R84. -/
def opcodeRow3 : List Handler :=
  [f2 .bmi, f2 .andIndY, unknown, unknown, unknown, f2 .andZpX, f2 .rolZpX, unknown,
   f1 .sec, f3 .andAbsY, unknown, unknown, unknown, f3 .andAbsX, f3 .rolAbsX, unknown]

open Handler in
/-- Row 4x of the opcode map R84. -/
def opcodeRow4 : List Handler :=
  [f1 .rti, f2 .eorIndX, unknown, unknown, unknown, f2 .eorZp, f2 .lsrZp, unknown,
   f1 .pha, f2 .eorImm, f1 .lsrAcc, unknown, f3 .jmpAbs, f3 .eorAbs, f3 .lsrAbs, unknown]

open Handler in
/-- Row 5x of the opcode map R84. -/
def opcodeRow5 : List Handler :=
  [f2 .bvc, f2 .eorIndY, unknown, unknown, unknown, f2 .eorZpX, f2 .lsrZpX, unknown,
   f1 .cli, f3 .eorAbsY, unknown, unknown, unknown, f3 .eorAbsX, f3 .lsrAbsX, unknown]

open Handler in
/-- Row 6x of the opcode map R84. -/
def opcodeRow6 : List Handler :=
  [f1 .rts, f2 .adcIndX, unknown, unknown, unknown, f2 .adcZp, f2 .rorZp, unknown,
   f1 .pla, f2 .adcImm, f1 .rorAcc, unknown, f3 .jmpInd, f3 .adcAbs, f3 .rorAbs, unknown]

open Handler in
/-- Row 7x of the opcode map R84. -/
def opcodeRow7 : List Handler :=
  [f2 .bvs, f2 .adcIndY, unknown, unknown, unknown, f2 .adcZpX, f2 .rorZpX, unknown,
   f1 .sei, f3 .adcAbsY, unknown, unknown, unknown, f3 .adcAbsX, f3 .rorAbsX, unknown]

open Handler in
/-- Row 8x of the opcode map R84. -/
def opcodeRow8 : List Handler :=
  [unknown, f2 .staIndX, unknown, unknown, f2 .styZp, f2 .staZp, f2 .stxZp, unknown,
   f1 .dey, unknown, f1 .txa, unknown, f3 .styAbs, f3 .staAbs, f3 .stxAbs, unknown]

open Handler in
/-- Row 9x of the opcode map R84. -/
def opcodeRow9 : List Handler :=
  [f2 .bcc, f2 .staIndY, unknown, unknown, f2 .styZpX, f2 .staZpX, f2 .stxZpY, unknown,
   f1 .tya, f3 .staAbsY, f1 .txs, unknown, unknown, f3 .staAbsX, unknown, unknown]

open Handler in
/-- Row Ax of the opcode map R84. -/
def opcodeRowA : List Handler :=
  [f2 .ldyImm, f2 .ldaIndX, f2 .ldxImm, unknown, f2 .ldyZp, f2 .ldaZp, f2 .ldxZp, unknown,
   f1 .tay, f2 .ldaImm, f1 .tax, unknown, f3 .ldyAbs, f3 .ldaAbs, f3 .ldxAbs, unknown]

open Handler in
/-- Row Bx of the opcode map R84. -/
def opcodeRowB : List Handler :=
  [f2 .bcs, f2 .ldaIndY, unknown, unknown, f2 .ldyZpX, f2 .ldaZpX, f2 .ldxZpY, unknown,
   f1 .clv, f3 .ldaAbsY, f1 .tsx, unknown, f3 .ldyAbsX, f3 .ldaAbsX, f3 .ldxAbsY, unknown]

open Handler in
/-- Row Cx of the opcode map R84. -/
def opcodeRowC : List Handler :=
  [f2 .cpyImm, f2 .cmpIndX, unknown, unknown, f2 .cpyZp, f2 .cmpZp, f2 .decZp, unknown,
   f1 .iny, f2 .cmpImm, f1 .dex, unknown, f3 .cpyAbs, f3 .cmpAbs, f3 .decAbs, unknown]

open Handler in
/-- Row Dx of the opcode map R84. -/
def opcodeRowD : List Handler :=
  [f2 .bne, f2 .cmpIndY, unknown, unknown, unknown, f2 .cmpZpX, f2 .decZpX, unknown,
   f1 .cld, f3 .cmpAbsY, unknown, unknown, unknown, f3 .cmpAbsX, f3 .decAbsX, unknown]

open Handler in
/-- Row Ex of the opcode map R84. -/
def opcodeRowE : List Handler :=
  [f2 .cpxImm, f2 .sbcIndX, unknown, unknown, f2 .cpxZp, f2 .sbcZp, f2 .incZp, unknown,
   f1 .inx, f2 .sbcImm, f1 .nop, unknown, f3 .cpxAbs, f3 .sbcAbs, f3 .incAbs, unknown]

open Handler in
/-- Row Fx of the opcode map R84. -/
def opcodeRowF : List Handler :=
  [f2 .beq, f2 .sbcIndY, unknown, unknown, unknown, f2 .sbcZpX, f2 .incZpX, unknown,
   f1 .sed, f3 .sbcAbsY, unknown, unknown, unknown, f3 .sbcAbsX, f3 .incAbsX, unknown]

/-- The opcode map of R84: the row is the high nibble of the opcode, the column the low nibble. -/
def opcodeMap : List (List Handler) :=
  [opcodeRow0, opcodeRow1, opcodeRow2, opcodeRow3, opcodeRow4, opcodeRow5, opcodeRow6, opcodeRow7] ++
  [opcodeRow8, opcodeRow9, opcodeRowA, opcodeRowB, opcodeRowC, opcodeRowD, opcodeRowE, opcodeRowF]

/-- The four opcodes of `DOC4` (R85). -/
def doc4Handler (op : Byte) : Handler :=
  if op = 0xA9#8 then .f2 .ldaImm
  else if op = 0xA5#8 then .f2 .ldaZp
  else if op = 0xB5#8 then .f2 .ldaZpX
  else if op = 0x20#8 then .f3 .jsr
  else .unknown

/-- `Decode(PROFILE, op)` (R113): total from the opcode byte to a handler or none, of these two
arguments alone. -/
def handlerOf (p : Profile) (op : Byte) : Handler :=
  match p with
  | .nmos151 => (opcodeMap.getD (op.toNat / 16) []).getD (op.toNat % 16) .unknown
  | .doc4 => doc4Handler op

/-- Why bytes are not an instruction. -/
inductive DecodeError where
  /-- There is no byte. -/
  | noBytes
  /-- The profile does not decode the opcode byte (R86, R113). -/
  | unknownOpcode (op : Byte)
  /-- The opcode is known and its operand bytes are missing. -/
  | truncated (op : Byte)
  deriving DecidableEq, Repr

/-- Reads one instruction from the front of a list of bytes (R80 to R82); the rest of the list is
returned. The opcode alone fixes the length and the handler (R80). -/
def decode (p : Profile) : List Byte → Except DecodeError (Instr × List Byte)
  | [] => .error .noBytes
  | op :: rest =>
    match handlerOf p op with
    | .unknown => .error (.unknownOpcode op)
    | .f1 i => .ok (i, rest)
    | .f2 mk =>
      match rest with
      | b1 :: rest => .ok (mk b1, rest)
      | [] => .error (.truncated op)
    | .f3 mk =>
      match rest with
      | lo :: hi :: rest => .ok (mk (mkWord hi lo), rest)
      | _ => .error (.truncated op)

/-- The bytes of an F2 instruction (R81). -/
def bytesF2 (op b1 : Byte) : List Byte := [op, b1]

/-- The bytes of an F3 instruction: the operand's low byte first (R81, R82). -/
def bytesF3 (op : Byte) (w : Word) : List Byte := [op, lo8 w, hi8 w]

/-- The bytes of an instruction, by the opcode column of its rule's table. -/
def encode : Instr → List Byte
  | .ldaIndX b => bytesF2 0xA1#8 b
  | .ldaZp b => bytesF2 0xA5#8 b
  | .ldaImm v => bytesF2 0xA9#8 v
  | .ldaAbs w => bytesF3 0xAD#8 w
  | .ldaIndY b => bytesF2 0xB1#8 b
  | .ldaZpX b => bytesF2 0xB5#8 b
  | .ldaAbsY w => bytesF3 0xB9#8 w
  | .ldaAbsX w => bytesF3 0xBD#8 w
  | .ldxImm v => bytesF2 0xA2#8 v
  | .ldxZp b => bytesF2 0xA6#8 b
  | .ldxAbs w => bytesF3 0xAE#8 w
  | .ldxZpY b => bytesF2 0xB6#8 b
  | .ldxAbsY w => bytesF3 0xBE#8 w
  | .ldyImm v => bytesF2 0xA0#8 v
  | .ldyZp b => bytesF2 0xA4#8 b
  | .ldyAbs w => bytesF3 0xAC#8 w
  | .ldyZpX b => bytesF2 0xB4#8 b
  | .ldyAbsX w => bytesF3 0xBC#8 w
  | .staIndX b => bytesF2 0x81#8 b
  | .staZp b => bytesF2 0x85#8 b
  | .staAbs w => bytesF3 0x8D#8 w
  | .staIndY b => bytesF2 0x91#8 b
  | .staZpX b => bytesF2 0x95#8 b
  | .staAbsY w => bytesF3 0x99#8 w
  | .staAbsX w => bytesF3 0x9D#8 w
  | .stxZp b => bytesF2 0x86#8 b
  | .stxAbs w => bytesF3 0x8E#8 w
  | .stxZpY b => bytesF2 0x96#8 b
  | .styZp b => bytesF2 0x84#8 b
  | .styAbs w => bytesF3 0x8C#8 w
  | .styZpX b => bytesF2 0x94#8 b
  | .adcIndX b => bytesF2 0x61#8 b
  | .adcZp b => bytesF2 0x65#8 b
  | .adcImm v => bytesF2 0x69#8 v
  | .adcAbs w => bytesF3 0x6D#8 w
  | .adcIndY b => bytesF2 0x71#8 b
  | .adcZpX b => bytesF2 0x75#8 b
  | .adcAbsY w => bytesF3 0x79#8 w
  | .adcAbsX w => bytesF3 0x7D#8 w
  | .sbcIndX b => bytesF2 0xE1#8 b
  | .sbcZp b => bytesF2 0xE5#8 b
  | .sbcImm v => bytesF2 0xE9#8 v
  | .sbcAbs w => bytesF3 0xED#8 w
  | .sbcIndY b => bytesF2 0xF1#8 b
  | .sbcZpX b => bytesF2 0xF5#8 b
  | .sbcAbsY w => bytesF3 0xF9#8 w
  | .sbcAbsX w => bytesF3 0xFD#8 w
  | .andIndX b => bytesF2 0x21#8 b
  | .andZp b => bytesF2 0x25#8 b
  | .andImm v => bytesF2 0x29#8 v
  | .andAbs w => bytesF3 0x2D#8 w
  | .andIndY b => bytesF2 0x31#8 b
  | .andZpX b => bytesF2 0x35#8 b
  | .andAbsY w => bytesF3 0x39#8 w
  | .andAbsX w => bytesF3 0x3D#8 w
  | .oraIndX b => bytesF2 0x01#8 b
  | .oraZp b => bytesF2 0x05#8 b
  | .oraImm v => bytesF2 0x09#8 v
  | .oraAbs w => bytesF3 0x0D#8 w
  | .oraIndY b => bytesF2 0x11#8 b
  | .oraZpX b => bytesF2 0x15#8 b
  | .oraAbsY w => bytesF3 0x19#8 w
  | .oraAbsX w => bytesF3 0x1D#8 w
  | .eorIndX b => bytesF2 0x41#8 b
  | .eorZp b => bytesF2 0x45#8 b
  | .eorImm v => bytesF2 0x49#8 v
  | .eorAbs w => bytesF3 0x4D#8 w
  | .eorIndY b => bytesF2 0x51#8 b
  | .eorZpX b => bytesF2 0x55#8 b
  | .eorAbsY w => bytesF3 0x59#8 w
  | .eorAbsX w => bytesF3 0x5D#8 w
  | .cmpIndX b => bytesF2 0xC1#8 b
  | .cmpZp b => bytesF2 0xC5#8 b
  | .cmpImm v => bytesF2 0xC9#8 v
  | .cmpAbs w => bytesF3 0xCD#8 w
  | .cmpIndY b => bytesF2 0xD1#8 b
  | .cmpZpX b => bytesF2 0xD5#8 b
  | .cmpAbsY w => bytesF3 0xD9#8 w
  | .cmpAbsX w => bytesF3 0xDD#8 w
  | .cpxImm v => bytesF2 0xE0#8 v
  | .cpxZp b => bytesF2 0xE4#8 b
  | .cpxAbs w => bytesF3 0xEC#8 w
  | .cpyImm v => bytesF2 0xC0#8 v
  | .cpyZp b => bytesF2 0xC4#8 b
  | .cpyAbs w => bytesF3 0xCC#8 w
  | .bitZp b => bytesF2 0x24#8 b
  | .bitAbs w => bytesF3 0x2C#8 w
  | .incZp b => bytesF2 0xE6#8 b
  | .incAbs w => bytesF3 0xEE#8 w
  | .incZpX b => bytesF2 0xF6#8 b
  | .incAbsX w => bytesF3 0xFE#8 w
  | .decZp b => bytesF2 0xC6#8 b
  | .decAbs w => bytesF3 0xCE#8 w
  | .decZpX b => bytesF2 0xD6#8 b
  | .decAbsX w => bytesF3 0xDE#8 w
  | .inx => [0xE8#8]
  | .iny => [0xC8#8]
  | .dex => [0xCA#8]
  | .dey => [0x88#8]
  | .aslZp b => bytesF2 0x06#8 b
  | .aslAcc => [0x0A#8]
  | .aslAbs w => bytesF3 0x0E#8 w
  | .aslZpX b => bytesF2 0x16#8 b
  | .aslAbsX w => bytesF3 0x1E#8 w
  | .lsrZp b => bytesF2 0x46#8 b
  | .lsrAcc => [0x4A#8]
  | .lsrAbs w => bytesF3 0x4E#8 w
  | .lsrZpX b => bytesF2 0x56#8 b
  | .lsrAbsX w => bytesF3 0x5E#8 w
  | .rolZp b => bytesF2 0x26#8 b
  | .rolAcc => [0x2A#8]
  | .rolAbs w => bytesF3 0x2E#8 w
  | .rolZpX b => bytesF2 0x36#8 b
  | .rolAbsX w => bytesF3 0x3E#8 w
  | .rorZp b => bytesF2 0x66#8 b
  | .rorAcc => [0x6A#8]
  | .rorAbs w => bytesF3 0x6E#8 w
  | .rorZpX b => bytesF2 0x76#8 b
  | .rorAbsX w => bytesF3 0x7E#8 w
  | .jsr w => bytesF3 0x20#8 w
  | .jmpAbs w => bytesF3 0x4C#8 w
  | .jmpInd w => bytesF3 0x6C#8 w
  | .rts => [0x60#8]
  | .bpl off => bytesF2 0x10#8 off
  | .bmi off => bytesF2 0x30#8 off
  | .bvc off => bytesF2 0x50#8 off
  | .bvs off => bytesF2 0x70#8 off
  | .bcc off => bytesF2 0x90#8 off
  | .bcs off => bytesF2 0xB0#8 off
  | .bne off => bytesF2 0xD0#8 off
  | .beq off => bytesF2 0xF0#8 off
  | .brk => [0x00#8]
  | .rti => [0x40#8]
  | .nop => [0xEA#8]
  | .pha => [0x48#8]
  | .pla => [0x68#8]
  | .php => [0x08#8]
  | .plp => [0x28#8]
  | .tax => [0xAA#8]
  | .tay => [0xA8#8]
  | .txa => [0x8A#8]
  | .tya => [0x98#8]
  | .tsx => [0xBA#8]
  | .txs => [0x9A#8]
  | .clc => [0x18#8]
  | .sec => [0x38#8]
  | .cli => [0x58#8]
  | .sei => [0x78#8]
  | .cld => [0xD8#8]
  | .sed => [0xF8#8]
  | .clv => [0xB8#8]

/-- The longest instruction, in bytes (R80). -/
def maxLength : Nat := 3

/-- The bytes of an instruction whose bits are `w`, numbered as spec/opcode_table.json numbers them (bit 0
the least significant bit of the first byte), with every bit from `nbits` on 0, up to the longest
instruction. -/
def tableWordBytes (nbits w : Nat) : List Byte :=
  (List.range maxLength).map fun k => BitVec.ofNat 8 (w % 2 ^ nbits / 2 ^ (8 * k))

/-- The instruction the decoder reads from a table word, under the default profile NMOS151 (log 1). -/
def decodeTableWord (nbits w : Nat) : Option Instr :=
  match decode .nmos151 (tableWordBytes nbits w) with
  | .ok (i, _) => some i
  | .error _ => none

end Sys2Proof
end

