-- ==== Sys2Proof/Machine/State.lean ====
section
/-! DEFINITION. The state of the machine (10_state.md R20), why a step can stop (60_exceptions.md R300),
and the state after Reset (10_state.md R40). -/

namespace Sys2Proof.Machine

/-- The seven status flags, independent one-bit state elements (10_state.md R29). -/
structure Flags where
  /-- Carry (R30). -/
  c : Bool
  /-- Zero (R31). -/
  z : Bool
  /-- Interrupt disable (R32): stored, pushed and pulled; it masks nothing. -/
  i : Bool
  /-- Decimal mode (R33). -/
  d : Bool
  /-- The stored break flag (R34): of the machine's own operations Reset alone writes it, and no instruction reads
  it. That the host may write it between calls is the model's choice (log 11). -/
  b : Bool
  /-- Overflow (R35). -/
  v : Bool
  /-- Negative (R36). -/
  n : Bool
  deriving DecidableEq, Repr

/-- The 64 KiB memory (20_memory.md R50), as the list of its bytes that differ from what an unlisted
address reads as (`Memory.unlisted`), in the canonical form `Memory.wf`. -/
abbrev Memory := List Host.Cell

/-- The state of the machine: what 10_state.md R20 lists, and the two parameters (log 1). -/
structure State where
  /-- The parameters PROFILE and DECIMAL_MODE (00_scope.md R5): the model's own field, never written by a
  step (log 1). -/
  cfg : Config
  /-- The accumulator A (R21). -/
  a : Byte
  /-- The index register X (R22). -/
  x : Byte
  /-- The index register Y (R23). -/
  y : Byte
  /-- The 8-bit stack pointer S (R27); SP is the view `stackAddr s`. -/
  s : Byte
  /-- The program counter PC (R25). -/
  pc : Word
  /-- The status flags (R29). -/
  flags : Flags
  /-- The memory M (20_memory.md R50). -/
  mem : Memory
  /-- The cycle counter of the Execute call in progress (R38); between calls its value means nothing
  (log 2). -/
  cycles : Int
  /-- The marker reset_done (R39). -/
  resetDone : Bool
  deriving DecidableEq, Repr

/-- The ways an Execute call returns to the host (60_exceptions.md R300). Both are safe: the model stops
exactly where the spec's Execute returns. -/
inductive Fault where
  /-- `BudgetExhausted`, raised by `step` when the counter is not positive at an instruction boundary
  (40_engine.md R111). A normal return, "not an error" (log 3). Safe. -/
  | budgetExhausted
  /-- `UnknownOpcode(op, addr)`, raised by `step` when the profile does not decode the byte `op` fetched
  at `addr` (60_exceptions.md R301, log 4). Safe. -/
  | unknownOpcode (op : Byte) (addr : Word)
  deriving DecidableEq, Repr

/-- Why the model refuses (60_exceptions.md R303). All are safe: no successor state is claimed. -/
inductive Refusal where
  /-- An instruction without a meaning: raised by an arm of `exec` and by nothing else. No arm raises it
  now. Safe. -/
  | notModelled (mnemonic : String)
  /-- `NotReset`, raised by `step`: Execute before any Reset (70_reset_and_hazards.md R334). Safe. -/
  | notReset
  /-- `DecimalRefused`, raised by ADC and SBC with D = 1 under DECIMAL_MODE = refuse (42_alu.md R180,
  R182). Safe. -/
  | decimalRefused
  deriving DecidableEq, Repr

/-- All flags 0. -/
def Flags.zero : Flags :=
  { c := false, z := false, i := false, d := false, b := false, v := false, n := false }

/-- The machine right after Reset, with the default parameters: the table of 10_state.md R40. The counter
has no value there; the model names 0 (log 2). -/
def State.reset : State :=
  { cfg := Config.default
    a := 0x00#8, x := 0x00#8, y := 0x00#8, s := 0x00#8
    pc := 0xFFFC#16
    flags := Flags.zero
    mem := []
    cycles := 0
    resetDone := true }

end Sys2Proof.Machine
end

