-- ==== Sys2Proof/Machine/Flags.lean ====
section
/-! DEFINITION. The status byte (10_state.md R37), the flag derivations (40_engine.md R138 to R143) and the
adder, subtractor and shifter of 42_alu.md, as functions of operand values and the old flags. -/

namespace Sys2Proof.Machine

/-! ## The status byte -/

/-- `PackP(b4)` (R37): bit 7 N, 6 V, 5 one, 4 `b4`, 3 D, 2 I, 1 Z, 0 C. The stored B is not in it. -/
def packP (b4 : Bool) (f : Flags) : Byte :=
  BitVec.ofBool f.n ++ BitVec.ofBool f.v ++ 1#1 ++ BitVec.ofBool b4 ++
  BitVec.ofBool f.d ++ BitVec.ofBool f.i ++ BitVec.ofBool f.z ++ BitVec.ofBool f.c

/-- `UnpackP(p)` (R37): bits 5 and 4 of p are ignored and the stored B is unchanged. -/
def unpackP (p : Byte) (f : Flags) : Flags :=
  { f with n := p.getLsbD 7, v := p.getLsbD 6, d := p.getLsbD 3
           i := p.getLsbD 2, z := p.getLsbD 1, c := p.getLsbD 0 }

/-! ## Load flags, compare, bit test -/

/-- `SetZN(r)`, `UpdateLoadFlags` (R138): Z and N from a byte, nothing else. -/
def setZN (r : Byte) (f : Flags) : Flags :=
  { f with z := r == 0x00#8, n := r.getLsbD 7 }

/-- `Compare(g, m)` (R142): C when `g >= m` unsigned, Z and N from the wrapped difference. -/
def compareFlags (g m : Byte) (f : Flags) : Flags :=
  setZN (g - m) { f with c := decide (m.toNat ≤ g.toNat) }

/-- The flags of BIT (42_alu.md R192): Z from `A & m`, N and V from bits 7 and 6 of the operand. -/
def bitFlags (a m : Byte) (f : Flags) : Flags :=
  { f with z := (a &&& m) == 0x00#8, n := m.getLsbD 7, v := m.getLsbD 6 }

/-! ## Addition -/

/-- Binary addition (R140, 42_alu.md R180): the new A and the new flags. -/
def addBinary (a m : Byte) (c : Bool) (f : Flags) : Byte × Flags :=
  let sum := a.toNat + m.toNat + c.toNat
  let r := BitVec.ofNat 8 sum
  (r, setZN r { f with c := decide (256 ≤ sum), v := ((a ^^^ r) &&& (m ^^^ r)).getLsbD 7 })

/-- The low digit of a decimal addition, with its carry into the high digit (42_alu.md R181). -/
def addDecimalLow (a m : Byte) (c : Bool) : Nat :=
  let al := (a &&& 0x0F#8).toNat + (m &&& 0x0F#8).toNat + c.toNat
  if 0x0A ≤ al then (al + 0x06) % 16 + 0x10 else al

/-- `AddDecimal(a, m, c)` (R181), for every pair of bytes: N and V from the value before the high-digit
adjust, Z from the binary sum, C from the value after the adjust. -/
def addDecimal (a m : Byte) (c : Bool) (f : Flags) : Byte × Flags :=
  let bin := a.toNat + m.toNat + c.toNat
  let al := addDecimalLow a m c
  let t := (a &&& 0xF0#8).toNat + (m &&& 0xF0#8).toNat + al
  let s := (a &&& 0xF0#8).toInt + (m &&& 0xF0#8).toInt + (al : Int)
  let t' := if 0xA0 ≤ t then t + 0x60 else t
  (BitVec.ofNat 8 t',
    { f with n := t.testBit 7, v := decide (s < -128 ∨ 127 < s)
             z := decide (bin % 256 = 0), c := decide (0x100 ≤ t') })

/-! ## Subtraction -/

/-- The flags of a subtraction with borrow, in both modes (R141, 42_alu.md R182). -/
def subFlags (a m : Byte) (c : Bool) (f : Flags) : Flags :=
  let diff : Int := (a.toNat : Int) - m.toNat - (1 - c.toNat)
  let r := BitVec.ofInt 8 diff
  setZN r { f with c := decide (0 ≤ diff), v := ((a ^^^ m) &&& (a ^^^ r)).getLsbD 7 }

/-- The byte a binary subtraction gives (R182). -/
def subBinary (a m : Byte) (c : Bool) : Byte :=
  BitVec.ofInt 8 ((a.toNat : Int) - m.toNat - (1 - c.toNat))

/-- The low digit of a decimal subtraction, with its borrow from the high digit (42_alu.md R183). `&` on a
negative integer is the two's-complement AND of 00_scope.md R6, here a remainder modulo 16. -/
def subDecimalLow (a m : Byte) (c : Bool) : Int :=
  let al : Int := ((a &&& 0x0F#8).toNat : Int) - (m &&& 0x0F#8).toNat + c.toNat - 1
  if al < 0 then (al - 0x06) % 16 - 0x10 else al

/-- `SubDecimal(a, m, c)` (R183), for every pair of bytes. -/
def subDecimal (a m : Byte) (c : Bool) : Byte :=
  let t : Int := ((a &&& 0xF0#8).toNat : Int) - (m &&& 0xF0#8).toNat + subDecimalLow a m c
  BitVec.ofInt 8 (if t < 0 then t - 0x60 else t)

/-! ## Increment, decrement, shifts and rotates: the byte written and the new flags -/

/-- INC's function (42_alu.md R193). -/
def incByte (v : Byte) (f : Flags) : Byte × Flags := (v + 1#8, setZN (v + 1#8) f)

/-- DEC's function (R194). -/
def decByte (v : Byte) (f : Flags) : Byte × Flags := (v - 1#8, setZN (v - 1#8) f)

/-- ASL's function (R199): C from bit 7. -/
def aslByte (v : Byte) (f : Flags) : Byte × Flags :=
  let r := v <<< 1
  (r, setZN r { f with c := v.getLsbD 7 })

/-- LSR's function (R200): C from bit 0. -/
def lsrByte (v : Byte) (f : Flags) : Byte × Flags :=
  let r := v >>> 1
  (r, setZN r { f with c := v.getLsbD 0 })

/-- ROL's function (R201): the old C comes in at bit 0, C from bit 7. -/
def rolByte (v : Byte) (f : Flags) : Byte × Flags :=
  let r := (v <<< 1) ||| BitVec.ofNat 8 f.c.toNat
  (r, setZN r { f with c := v.getLsbD 7 })

/-- ROR's function (R202): the old C comes in at bit 7, C from bit 0. -/
def rorByte (v : Byte) (f : Flags) : Byte × Flags :=
  let r := (v >>> 1) ||| BitVec.ofNat 8 f.c.toNat <<< 7
  (r, setZN r { f with c := v.getLsbD 0 })

end Sys2Proof.Machine
end

