-- ==== Sys2Proof/Machine/Ops.lean ====
section
/-! DEFINITION. The operations over memory, the stack, PC and the cycle counter that every handler is built
from (40_engine.md R114 to R122), and the trap entry and return of BRK and RTI (60_exceptions.md R306,
R307). -/

namespace Sys2Proof.Machine

/-! ## Memory -/

/-- What an address that the memory does not list reads as: every byte is 0x00 from construction and after
Reset (20_memory.md R51, 10_state.md R40). -/
def Memory.unlisted : Byte := 0x00#8

/-- `M[a]`: the byte at an address (20_memory.md R51), without effect. -/
def Memory.read : Memory → Nat → Byte
  | [], _ => Memory.unlisted
  | (b, v) :: m, a => if b = a then v else Memory.read m a

/-- Lists the byte `v` at address `a` in front of `m`, unless an unlisted address reads as `v` already. -/
def Memory.list (a : Nat) (v : Byte) (m : Memory) : Memory :=
  if v = Memory.unlisted then m else (a, v) :: m

/-- `M[a] <- v` (20_memory.md R51), keeping the canonical form. -/
def Memory.write : Memory → Nat → Byte → Memory
  | [], a, v => Memory.list a v []
  | (b, w) :: m, a, v =>
    if a < b then Memory.list a v ((b, w) :: m)
    else if a = b then Memory.list a v m
    else (b, w) :: Memory.write m a v

/-- Every address of the memory is at least `lo`, they rise strictly, all are below 65536 (R50), and no
byte is listed that an unlisted address reads as. -/
def Memory.wfFrom (lo : Nat) : Memory → Bool
  | [] => true
  | (b, v) :: m => decide (lo ≤ b) && decide (b < 65536) && (v != Memory.unlisted) && Memory.wfFrom (b + 1) m

/-- The canonical form: equal memories are equal data. -/
def Memory.wf (m : Memory) : Bool := Memory.wfFrom 0 m

/-- `M[a]` of a state (00_scope.md R7): the byte at a 16-bit address. -/
def State.peek (st : State) (a : Word) : Byte := Memory.read st.mem a.toNat

/-- `M[a] <- v` in a state, without billing. -/
def State.poke (st : State) (a : Word) (v : Byte) : State :=
  { st with mem := Memory.write st.mem a.toNat v }

/-! ## The primitives -/

/-- `Tick()` (R120): one internal cycle. -/
def State.tick (st : State) : State := { st with cycles := st.cycles - 1 }

/-- What `FetchByte()` does to the state (R115): PC moves on by one, wrapping at 2^16 (20_memory.md R52), and
one cycle is billed. -/
def State.fetched (st : State) : State := { st with pc := st.pc + 1#16, cycles := st.cycles - 1 }

/-- `FetchByte()` (R115). -/
def fetchByte (st : State) : Byte × State := (st.peek st.pc, st.fetched)

/-- `ReadByte(a)` (R117). -/
def readByte (a : Word) (st : State) : Byte × State := (st.peek a, st.tick)

/-- `ReadWord(a)` (R118): low byte first, the second address wrapping at 2^16. -/
def readWord (a : Word) (st : State) : Word × State :=
  let lo := readByte a st
  let hi := readByte (a + 1#16) lo.2
  (mkWord hi.1 lo.1, hi.2)

/-- `WriteByte(a, v)` (R119). -/
def writeByte (a : Word) (v : Byte) (st : State) : State := (st.poke a v).tick

/-- `Push(v)` (R121): writes at `0x0100 + S`, then S goes down by one modulo 256 (20_memory.md R64). -/
def push (v : Byte) (st : State) : State :=
  let st' := writeByte (stackAddr st.s) v st
  { st' with s := st'.s - 1#8 }

/-- `Pull()` (R122): S goes up by one modulo 256, then `0x0100 + S` is read. -/
def pull (st : State) : Byte × State :=
  let st' := { st with s := st.s + 1#8 }
  readByte (stackAddr st'.s) st'

/-! ## Trap entry and return -/

/-- The address of the BRK vector (20_memory.md R59). -/
def brkVector : Word := 0xFFFE#16

/-- The trap entry of BRK (60_exceptions.md R306, 43_control.md R232): the return address high byte first, then
the status byte with bit 4 set, are pushed; I is set; PC is read from the vector. There is no mode. -/
def takeBreak (st : State) : State :=
  let st1 := push (lo8 st.pc) (push (hi8 st.pc) st)
  let st2 := push (packP true st1.flags) st1
  let st3 := { st2 with flags := { st2.flags with i := true } }
  let v := readWord brkVector st3
  { v.2 with pc := v.1 }

/-- The trap return of RTI (60_exceptions.md R307, 43_control.md R233): the status byte, then PC low byte first,
are pulled; the address is not incremented. -/
def returnFromBreak (st : State) : State :=
  let p := pull st
  let st1 := { p.2 with flags := unpackP p.1 p.2.flags }
  let lo := pull st1
  let hi := pull lo.2
  { hi.2 with pc := mkWord hi.1 lo.1 }

end Sys2Proof.Machine
end

