-- ==== Sys2Proof/Machine/Operands.lean ====
section
/-! DEFINITION. The address-mode resolver and the operand helpers (40_engine.md R124 to R137). An operand byte
is the one the decoder read at PC (log 5): here its FetchByte moves PC and bills its cycle. -/

namespace Sys2Proof.Machine

/-- The access kind (R137). -/
inductive Access where
  | read
  | write
  | rmw
  deriving DecidableEq, Repr

/-- What `FetchWord()` does to the state (R116): two bytes fetched. -/
def State.fetchedWord (st : State) : State := st.fetched.fetched

/-- The indexed sum of absolute,X, absolute,Y and (indirect),Y, modulo 2^16, and its page-crossing cycle
(R131, R132, R134): billed always but on a read that stays in the base's page. -/
def indexed (base : Word) (index : Byte) (k : Access) (st : State) : Word × State :=
  let ea := base + zext index
  (ea, if k ≠ .read ∨ hi8 base ≠ hi8 ea then st.tick else st)

/-- A pointer in page 0: its low byte at `p`, its high byte at `wrap8(p + 1)` (R133, R134). -/
def zpPointer (p : Byte) (st : State) : Word × State :=
  let lo := readByte (zext p) st
  let hi := readByte (zext (p + 1#8)) lo.2
  (mkWord hi.1 lo.1, hi.2)

/-- `resolve(mode, kind)` (R127 to R134): the effective address, and the state after the mode's own steps. -/
def resolve (m : AddrMode) (k : Access) (st : State) : Word × State :=
  match m with
  | .zp b => (zext b, st.fetched)
  | .zpX b => (zext (b + st.x), st.fetched.tick)
  | .zpY b => (zext (b + st.y), st.fetched.tick)
  | .abs w => (w, st.fetchedWord)
  | .absX w => indexed w st.x k st.fetchedWord
  | .absY w => indexed w st.y k st.fetchedWord
  | .indX b => zpPointer (b + st.x) st.fetched.tick
  | .indY b =>
    let base := zpPointer b st.fetched
    indexed base.1 st.y k base.2

/-- `LoadOperand(immediate)` (R126, R137): the operand byte itself. -/
def loadImm (v : Byte) (st : State) : Byte × State := (v, st.fetched)

/-- `LoadOperand(mode)` of a mode with an effective address (R137). -/
def loadMem (m : AddrMode) (st : State) : Byte × State :=
  let r := resolve m .read st
  readByte r.1 r.2

/-- `StoreOperand(mode, v)` (R137). -/
def storeOperand (m : AddrMode) (v : Byte) (st : State) : State :=
  let r := resolve m .write st
  writeByte r.1 v r.2

/-- `Modify(accumulator, f)` (R125, R137), `f` giving the byte written and the new flags. -/
def modifyAcc (f : Byte → Flags → Byte × Flags) (st : State) : State :=
  let st' := st.tick
  let r := f st'.a st'.flags
  { st' with a := r.1, flags := r.2 }

/-- `Modify(mode, f)` of a memory byte (R137): read, one cycle for the dummy write, then the write of f's
result. -/
def modifyMem (m : AddrMode) (f : Byte → Flags → Byte × Flags) (st : State) : State :=
  let r := resolve m .rmw st
  let v := readByte r.1 r.2
  let st' := v.2.tick
  let w := f v.1 st'.flags
  writeByte r.1 w.1 { st' with flags := w.2 }

/-- The relative mode (R136) with its condition: PC is already at the next instruction when the offset is
added and when the pages are compared. -/
def branchIf (cond : Bool) (off : Byte) (st : State) : State :=
  let st' := st.fetched
  if cond then
    let target := st'.pc + sext off
    let st'' := st'.tick
    { (if hi8 target ≠ hi8 st'.pc then st''.tick else st'') with pc := target }
  else st'

/-- The target of absolute indirect (R135): the pointer's second byte is read in the pointer's own page. -/
def indirectTarget (p : Word) (st : State) : Word × State :=
  let lo := readByte p st.fetchedWord
  let hi := readByte (mkWord (hi8 p) (lo8 p + 1#8)) lo.2
  (mkWord hi.1 lo.1, hi.2)

end Sys2Proof.Machine
end

