-- ==== Sys2Proof/Machine/Alu.lean ====
section
/-! DEFINITION. The meanings of the ALU instructions (42_alu.md). -/

namespace Sys2Proof.Machine

/-! ## Add and subtract -/

/-- `Add(A, v, C)` (R180) of a loaded operand; under DECIMAL_MODE = refuse, D = 1 is refused and nothing of
the instruction has happened (60_exceptions.md R303). -/
def addWithCarry (r : Byte × State) : Host.Outcome State Fault Refusal :=
  let st := r.2
  if st.flags.d then
    match st.cfg.decimalMode with
    | .refuse => .refused .decimalRefused
    | .nmos =>
      let q := addDecimal st.a r.1 st.flags.c st.flags
      .next { st with a := q.1, flags := q.2 }
  else
    let q := addBinary st.a r.1 st.flags.c st.flags
    .next { st with a := q.1, flags := q.2 }

/-- `Sub(A, v, C)` (R182) of a loaded operand: the flags are the binary ones in both modes. -/
def subWithBorrow (r : Byte × State) : Host.Outcome State Fault Refusal :=
  let st := r.2
  let fl := subFlags st.a r.1 st.flags.c st.flags
  if st.flags.d then
    match st.cfg.decimalMode with
    | .refuse => .refused .decimalRefused
    | .nmos => .next { st with a := subDecimal st.a r.1 st.flags.c, flags := fl }
  else .next { st with a := subBinary st.a r.1 st.flags.c, flags := fl }

/-- 0x61 `ADC ($nn,X)` (R184). -/
def execAdcIndX (b : Byte) (st : State) : Host.Outcome State Fault Refusal :=
  addWithCarry (loadMem ((.indX b)) st)

/-- 0x65 `ADC $nn` (R184). -/
def execAdcZp (b : Byte) (st : State) : Host.Outcome State Fault Refusal :=
  addWithCarry (loadMem ((.zp b)) st)

/-- 0x69 `ADC #$nn` (R184). -/
def execAdcImm (v : Byte) (st : State) : Host.Outcome State Fault Refusal :=
  addWithCarry (loadImm v st)

/-- 0x6D `ADC $nnnn` (R184). -/
def execAdcAbs (w : Word) (st : State) : Host.Outcome State Fault Refusal :=
  addWithCarry (loadMem ((.abs w)) st)

/-- 0x71 `ADC ($nn),Y` (R184). -/
def execAdcIndY (b : Byte) (st : State) : Host.Outcome State Fault Refusal :=
  addWithCarry (loadMem ((.indY b)) st)

/-- 0x75 `ADC $nn,X` (R184). -/
def execAdcZpX (b : Byte) (st : State) : Host.Outcome State Fault Refusal :=
  addWithCarry (loadMem ((.zpX b)) st)

/-- 0x79 `ADC $nnnn,Y` (R184). -/
def execAdcAbsY (w : Word) (st : State) : Host.Outcome State Fault Refusal :=
  addWithCarry (loadMem ((.absY w)) st)

/-- 0x7D `ADC $nnnn,X` (R184). -/
def execAdcAbsX (w : Word) (st : State) : Host.Outcome State Fault Refusal :=
  addWithCarry (loadMem ((.absX w)) st)

/-- 0xE1 `SBC ($nn,X)` (R185). -/
def execSbcIndX (b : Byte) (st : State) : Host.Outcome State Fault Refusal :=
  subWithBorrow (loadMem ((.indX b)) st)

/-- 0xE5 `SBC $nn` (R185). -/
def execSbcZp (b : Byte) (st : State) : Host.Outcome State Fault Refusal :=
  subWithBorrow (loadMem ((.zp b)) st)

/-- 0xE9 `SBC #$nn` (R185). -/
def execSbcImm (v : Byte) (st : State) : Host.Outcome State Fault Refusal :=
  subWithBorrow (loadImm v st)

/-- 0xED `SBC $nnnn` (R185). -/
def execSbcAbs (w : Word) (st : State) : Host.Outcome State Fault Refusal :=
  subWithBorrow (loadMem ((.abs w)) st)

/-- 0xF1 `SBC ($nn),Y` (R185). -/
def execSbcIndY (b : Byte) (st : State) : Host.Outcome State Fault Refusal :=
  subWithBorrow (loadMem ((.indY b)) st)

/-- 0xF5 `SBC $nn,X` (R185). -/
def execSbcZpX (b : Byte) (st : State) : Host.Outcome State Fault Refusal :=
  subWithBorrow (loadMem ((.zpX b)) st)

/-- 0xF9 `SBC $nnnn,Y` (R185). -/
def execSbcAbsY (w : Word) (st : State) : Host.Outcome State Fault Refusal :=
  subWithBorrow (loadMem ((.absY w)) st)

/-- 0xFD `SBC $nnnn,X` (R185). -/
def execSbcAbsX (w : Word) (st : State) : Host.Outcome State Fault Refusal :=
  subWithBorrow (loadMem ((.absX w)) st)

/-! ## Logic -/

/-- A logic operation with A (R186, R187, R188): Z and N from the new A. -/
def logicA (op : Byte → Byte → Byte) (r : Byte × State) : State :=
  let v := op r.2.a r.1
  { r.2 with a := v, flags := setZN v r.2.flags }

/-- 0x21 `AND ($nn,X)` (R186). -/
def execAndIndX (b : Byte) (st : State) : Host.Outcome State Fault Refusal :=
  .next (logicA (· &&& ·) (loadMem ((.indX b)) st))

/-- 0x25 `AND $nn` (R186). -/
def execAndZp (b : Byte) (st : State) : Host.Outcome State Fault Refusal :=
  .next (logicA (· &&& ·) (loadMem ((.zp b)) st))

/-- 0x29 `AND #$nn` (R186). -/
def execAndImm (v : Byte) (st : State) : Host.Outcome State Fault Refusal :=
  .next (logicA (· &&& ·) (loadImm v st))

/-- 0x2D `AND $nnnn` (R186). -/
def execAndAbs (w : Word) (st : State) : Host.Outcome State Fault Refusal :=
  .next (logicA (· &&& ·) (loadMem ((.abs w)) st))

/-- 0x31 `AND ($nn),Y` (R186). -/
def execAndIndY (b : Byte) (st : State) : Host.Outcome State Fault Refusal :=
  .next (logicA (· &&& ·) (loadMem ((.indY b)) st))

/-- 0x35 `AND $nn,X` (R186). -/
def execAndZpX (b : Byte) (st : State) : Host.Outcome State Fault Refusal :=
  .next (logicA (· &&& ·) (loadMem ((.zpX b)) st))

/-- 0x39 `AND $nnnn,Y` (R186). -/
def execAndAbsY (w : Word) (st : State) : Host.Outcome State Fault Refusal :=
  .next (logicA (· &&& ·) (loadMem ((.absY w)) st))

/-- 0x3D `AND $nnnn,X` (R186). -/
def execAndAbsX (w : Word) (st : State) : Host.Outcome State Fault Refusal :=
  .next (logicA (· &&& ·) (loadMem ((.absX w)) st))

/-- 0x01 `ORA ($nn,X)` (R187). -/
def execOraIndX (b : Byte) (st : State) : Host.Outcome State Fault Refusal :=
  .next (logicA (· ||| ·) (loadMem ((.indX b)) st))

/-- 0x05 `ORA $nn` (R187). -/
def execOraZp (b : Byte) (st : State) : Host.Outcome State Fault Refusal :=
  .next (logicA (· ||| ·) (loadMem ((.zp b)) st))

/-- 0x09 `ORA #$nn` (R187). -/
def execOraImm (v : Byte) (st : State) : Host.Outcome State Fault Refusal :=
  .next (logicA (· ||| ·) (loadImm v st))

/-- 0x0D `ORA $nnnn` (R187). -/
def execOraAbs (w : Word) (st : State) : Host.Outcome State Fault Refusal :=
  .next (logicA (· ||| ·) (loadMem ((.abs w)) st))

/-- 0x11 `ORA ($nn),Y` (R187). -/
def execOraIndY (b : Byte) (st : State) : Host.Outcome State Fault Refusal :=
  .next (logicA (· ||| ·) (loadMem ((.indY b)) st))

/-- 0x15 `ORA $nn,X` (R187). -/
def execOraZpX (b : Byte) (st : State) : Host.Outcome State Fault Refusal :=
  .next (logicA (· ||| ·) (loadMem ((.zpX b)) st))

/-- 0x19 `ORA $nnnn,Y` (R187). -/
def execOraAbsY (w : Word) (st : State) : Host.Outcome State Fault Refusal :=
  .next (logicA (· ||| ·) (loadMem ((.absY w)) st))

/-- 0x1D `ORA $nnnn,X` (R187). -/
def execOraAbsX (w : Word) (st : State) : Host.Outcome State Fault Refusal :=
  .next (logicA (· ||| ·) (loadMem ((.absX w)) st))

/-- 0x41 `EOR ($nn,X)` (R188). -/
def execEorIndX (b : Byte) (st : State) : Host.Outcome State Fault Refusal :=
  .next (logicA (· ^^^ ·) (loadMem ((.indX b)) st))

/-- 0x45 `EOR $nn` (R188). -/
def execEorZp (b : Byte) (st : State) : Host.Outcome State Fault Refusal :=
  .next (logicA (· ^^^ ·) (loadMem ((.zp b)) st))

/-- 0x49 `EOR #$nn` (R188). -/
def execEorImm (v : Byte) (st : State) : Host.Outcome State Fault Refusal :=
  .next (logicA (· ^^^ ·) (loadImm v st))

/-- 0x4D `EOR $nnnn` (R188). -/
def execEorAbs (w : Word) (st : State) : Host.Outcome State Fault Refusal :=
  .next (logicA (· ^^^ ·) (loadMem ((.abs w)) st))

/-- 0x51 `EOR ($nn),Y` (R188). -/
def execEorIndY (b : Byte) (st : State) : Host.Outcome State Fault Refusal :=
  .next (logicA (· ^^^ ·) (loadMem ((.indY b)) st))

/-- 0x55 `EOR $nn,X` (R188). -/
def execEorZpX (b : Byte) (st : State) : Host.Outcome State Fault Refusal :=
  .next (logicA (· ^^^ ·) (loadMem ((.zpX b)) st))

/-- 0x59 `EOR $nnnn,Y` (R188). -/
def execEorAbsY (w : Word) (st : State) : Host.Outcome State Fault Refusal :=
  .next (logicA (· ^^^ ·) (loadMem ((.absY w)) st))

/-- 0x5D `EOR $nnnn,X` (R188). -/
def execEorAbsX (w : Word) (st : State) : Host.Outcome State Fault Refusal :=
  .next (logicA (· ^^^ ·) (loadMem ((.absX w)) st))

/-! ## Compare and bit test -/

/-- `Compare(g, v)` (40_engine.md R142) of a loaded operand: only C, Z and N change. -/
def compareWith (g : Byte) (r : Byte × State) : State :=
  { r.2 with flags := compareFlags g r.1 r.2.flags }

/-- BIT (R192) of a loaded operand. -/
def bitTest (r : Byte × State) : State :=
  { r.2 with flags := bitFlags r.2.a r.1 r.2.flags }

/-- 0xC1 `CMP ($nn,X)` (R189). -/
def execCmpIndX (b : Byte) (st : State) : Host.Outcome State Fault Refusal :=
  .next (compareWith st.a (loadMem ((.indX b)) st))

/-- 0xC5 `CMP $nn` (R189). -/
def execCmpZp (b : Byte) (st : State) : Host.Outcome State Fault Refusal :=
  .next (compareWith st.a (loadMem ((.zp b)) st))

/-- 0xC9 `CMP #$nn` (R189). -/
def execCmpImm (v : Byte) (st : State) : Host.Outcome State Fault Refusal :=
  .next (compareWith st.a (loadImm v st))

/-- 0xCD `CMP $nnnn` (R189). -/
def execCmpAbs (w : Word) (st : State) : Host.Outcome State Fault Refusal :=
  .next (compareWith st.a (loadMem ((.abs w)) st))

/-- 0xD1 `CMP ($nn),Y` (R189). -/
def execCmpIndY (b : Byte) (st : State) : Host.Outcome State Fault Refusal :=
  .next (compareWith st.a (loadMem ((.indY b)) st))

/-- 0xD5 `CMP $nn,X` (R189). -/
def execCmpZpX (b : Byte) (st : State) : Host.Outcome State Fault Refusal :=
  .next (compareWith st.a (loadMem ((.zpX b)) st))

/-- 0xD9 `CMP $nnnn,Y` (R189). -/
def execCmpAbsY (w : Word) (st : State) : Host.Outcome State Fault Refusal :=
  .next (compareWith st.a (loadMem ((.absY w)) st))

/-- 0xDD `CMP $nnnn,X` (R189). -/
def execCmpAbsX (w : Word) (st : State) : Host.Outcome State Fault Refusal :=
  .next (compareWith st.a (loadMem ((.absX w)) st))

/-- 0xE0 `CPX #$nn` (R190). -/
def execCpxImm (v : Byte) (st : State) : Host.Outcome State Fault Refusal :=
  .next (compareWith st.x (loadImm v st))

/-- 0xE4 `CPX $nn` (R190). -/
def execCpxZp (b : Byte) (st : State) : Host.Outcome State Fault Refusal :=
  .next (compareWith st.x (loadMem ((.zp b)) st))

/-- 0xEC `CPX $nnnn` (R190). -/
def execCpxAbs (w : Word) (st : State) : Host.Outcome State Fault Refusal :=
  .next (compareWith st.x (loadMem ((.abs w)) st))

/-- 0xC0 `CPY #$nn` (R191). -/
def execCpyImm (v : Byte) (st : State) : Host.Outcome State Fault Refusal :=
  .next (compareWith st.y (loadImm v st))

/-- 0xC4 `CPY $nn` (R191). -/
def execCpyZp (b : Byte) (st : State) : Host.Outcome State Fault Refusal :=
  .next (compareWith st.y (loadMem ((.zp b)) st))

/-- 0xCC `CPY $nnnn` (R191). -/
def execCpyAbs (w : Word) (st : State) : Host.Outcome State Fault Refusal :=
  .next (compareWith st.y (loadMem ((.abs w)) st))

/-- 0x24 `BIT $nn` (R192). -/
def execBitZp (b : Byte) (st : State) : Host.Outcome State Fault Refusal :=
  .next (bitTest (loadMem ((.zp b)) st))

/-- 0x2C `BIT $nnnn` (R192). -/
def execBitAbs (w : Word) (st : State) : Host.Outcome State Fault Refusal :=
  .next (bitTest (loadMem ((.abs w)) st))

/-! ## Increment and decrement -/

/-- 0xE6 `INC $nn` (R193). -/
def execIncZp (b : Byte) (st : State) : Host.Outcome State Fault Refusal :=
  .next (modifyMem ((.zp b)) incByte st)

/-- 0xEE `INC $nnnn` (R193). -/
def execIncAbs (w : Word) (st : State) : Host.Outcome State Fault Refusal :=
  .next (modifyMem ((.abs w)) incByte st)

/-- 0xF6 `INC $nn,X` (R193). -/
def execIncZpX (b : Byte) (st : State) : Host.Outcome State Fault Refusal :=
  .next (modifyMem ((.zpX b)) incByte st)

/-- 0xFE `INC $nnnn,X` (R193). -/
def execIncAbsX (w : Word) (st : State) : Host.Outcome State Fault Refusal :=
  .next (modifyMem ((.absX w)) incByte st)

/-- 0xC6 `DEC $nn` (R194). -/
def execDecZp (b : Byte) (st : State) : Host.Outcome State Fault Refusal :=
  .next (modifyMem ((.zp b)) decByte st)

/-- 0xCE `DEC $nnnn` (R194). -/
def execDecAbs (w : Word) (st : State) : Host.Outcome State Fault Refusal :=
  .next (modifyMem ((.abs w)) decByte st)

/-- 0xD6 `DEC $nn,X` (R194). -/
def execDecZpX (b : Byte) (st : State) : Host.Outcome State Fault Refusal :=
  .next (modifyMem ((.zpX b)) decByte st)

/-- 0xDE `DEC $nnnn,X` (R194). -/
def execDecAbsX (w : Word) (st : State) : Host.Outcome State Fault Refusal :=
  .next (modifyMem ((.absX w)) decByte st)

/-- Writes X, with Z and N from it. -/
def setX (v : Byte) (st : State) : State := { st with x := v, flags := setZN v st.flags }

/-- Writes Y, with Z and N from it. -/
def setY (v : Byte) (st : State) : State := { st with y := v, flags := setZN v st.flags }

/-- 0xE8 `INX` (R195). -/
def execInx (st : State) : Host.Outcome State Fault Refusal :=
  .next (setX (st.x + 1#8) st.tick)

/-- 0xC8 `INY` (R196). -/
def execIny (st : State) : Host.Outcome State Fault Refusal :=
  .next (setY (st.y + 1#8) st.tick)

/-- 0xCA `DEX` (R197). -/
def execDex (st : State) : Host.Outcome State Fault Refusal :=
  .next (setX (st.x - 1#8) st.tick)

/-- 0x88 `DEY` (R198). -/
def execDey (st : State) : Host.Outcome State Fault Refusal :=
  .next (setY (st.y - 1#8) st.tick)

/-! ## Shifts and rotates -/

/-- 0x06 `ASL $nn` (R199). -/
def execAslZp (b : Byte) (st : State) : Host.Outcome State Fault Refusal :=
  .next (modifyMem ((.zp b)) aslByte st)

/-- 0x0A `ASL A` (R199). -/
def execAslAcc (st : State) : Host.Outcome State Fault Refusal :=
  .next (modifyAcc aslByte st)

/-- 0x0E `ASL $nnnn` (R199). -/
def execAslAbs (w : Word) (st : State) : Host.Outcome State Fault Refusal :=
  .next (modifyMem ((.abs w)) aslByte st)

/-- 0x16 `ASL $nn,X` (R199). -/
def execAslZpX (b : Byte) (st : State) : Host.Outcome State Fault Refusal :=
  .next (modifyMem ((.zpX b)) aslByte st)

/-- 0x1E `ASL $nnnn,X` (R199). -/
def execAslAbsX (w : Word) (st : State) : Host.Outcome State Fault Refusal :=
  .next (modifyMem ((.absX w)) aslByte st)

/-- 0x46 `LSR $nn` (R200). -/
def execLsrZp (b : Byte) (st : State) : Host.Outcome State Fault Refusal :=
  .next (modifyMem ((.zp b)) lsrByte st)

/-- 0x4A `LSR A` (R200). -/
def execLsrAcc (st : State) : Host.Outcome State Fault Refusal :=
  .next (modifyAcc lsrByte st)

/-- 0x4E `LSR $nnnn` (R200). -/
def execLsrAbs (w : Word) (st : State) : Host.Outcome State Fault Refusal :=
  .next (modifyMem ((.abs w)) lsrByte st)

/-- 0x56 `LSR $nn,X` (R200). -/
def execLsrZpX (b : Byte) (st : State) : Host.Outcome State Fault Refusal :=
  .next (modifyMem ((.zpX b)) lsrByte st)

/-- 0x5E `LSR $nnnn,X` (R200). -/
def execLsrAbsX (w : Word) (st : State) : Host.Outcome State Fault Refusal :=
  .next (modifyMem ((.absX w)) lsrByte st)

/-- 0x26 `ROL $nn` (R201). -/
def execRolZp (b : Byte) (st : State) : Host.Outcome State Fault Refusal :=
  .next (modifyMem ((.zp b)) rolByte st)

/-- 0x2A `ROL A` (R201). -/
def execRolAcc (st : State) : Host.Outcome State Fault Refusal :=
  .next (modifyAcc rolByte st)

/-- 0x2E `ROL $nnnn` (R201). -/
def execRolAbs (w : Word) (st : State) : Host.Outcome State Fault Refusal :=
  .next (modifyMem ((.abs w)) rolByte st)

/-- 0x36 `ROL $nn,X` (R201). -/
def execRolZpX (b : Byte) (st : State) : Host.Outcome State Fault Refusal :=
  .next (modifyMem ((.zpX b)) rolByte st)

/-- 0x3E `ROL $nnnn,X` (R201). -/
def execRolAbsX (w : Word) (st : State) : Host.Outcome State Fault Refusal :=
  .next (modifyMem ((.absX w)) rolByte st)

/-- 0x66 `ROR $nn` (R202). -/
def execRorZp (b : Byte) (st : State) : Host.Outcome State Fault Refusal :=
  .next (modifyMem ((.zp b)) rorByte st)

/-- 0x6A `ROR A` (R202). -/
def execRorAcc (st : State) : Host.Outcome State Fault Refusal :=
  .next (modifyAcc rorByte st)

/-- 0x6E `ROR $nnnn` (R202). -/
def execRorAbs (w : Word) (st : State) : Host.Outcome State Fault Refusal :=
  .next (modifyMem ((.abs w)) rorByte st)

/-- 0x76 `ROR $nn,X` (R202). -/
def execRorZpX (b : Byte) (st : State) : Host.Outcome State Fault Refusal :=
  .next (modifyMem ((.zpX b)) rorByte st)

/-- 0x7E `ROR $nnnn,X` (R202). -/
def execRorAbsX (w : Word) (st : State) : Host.Outcome State Fault Refusal :=
  .next (modifyMem ((.absX w)) rorByte st)

end Sys2Proof.Machine
end

