-- ==== Sys2Proof/Machine/Control.lean ====
section
/-! DEFINITION. The meanings of the control transfers (43_control.md). -/

namespace Sys2Proof.Machine

/-- JSR (R220): the target is fetched first, then the address of JSR's last byte is pushed, high byte
first. -/
def jumpSubroutine (target : Word) (st : State) : State :=
  let st1 := st.fetchedWord
  let ret := st1.pc - 1#16
  let st2 := push (lo8 ret) (push (hi8 ret) st1.tick)
  { st2 with pc := target }

/-- RTS (R222): the pulled address plus one. -/
def returnSubroutine (st : State) : State :=
  let lo := pull st.tick.tick
  let hi := pull lo.2
  ({ hi.2 with pc := mkWord hi.1 lo.1 + 1#16 } : State).tick

/-- 0x20 `JSR $nnnn` (R220). -/
def execJsr (w : Word) (st : State) : Host.Outcome State Fault Refusal :=
  .next (jumpSubroutine w st)

/-- 0x4C `JMP $nnnn` (R221). -/
def execJmpAbs (w : Word) (st : State) : Host.Outcome State Fault Refusal :=
  .next { st.fetchedWord with pc := w }

/-- 0x6C `JMP ($nnnn)` (R221). -/
def execJmpInd (w : Word) (st : State) : Host.Outcome State Fault Refusal :=
  .next { (indirectTarget w st).2 with pc := (indirectTarget w st).1 }

/-- 0x60 `RTS` (R222). -/
def execRts (st : State) : Host.Outcome State Fault Refusal :=
  .next (returnSubroutine st)

/-- 0x10 `BPL $nnnn` (R224). -/
def execBpl (off : Byte) (st : State) : Host.Outcome State Fault Refusal :=
  .next (branchIf (!st.flags.n) off st)

/-- 0x30 `BMI $nnnn` (R225). -/
def execBmi (off : Byte) (st : State) : Host.Outcome State Fault Refusal :=
  .next (branchIf st.flags.n off st)

/-- 0x50 `BVC $nnnn` (R226). -/
def execBvc (off : Byte) (st : State) : Host.Outcome State Fault Refusal :=
  .next (branchIf (!st.flags.v) off st)

/-- 0x70 `BVS $nnnn` (R227). -/
def execBvs (off : Byte) (st : State) : Host.Outcome State Fault Refusal :=
  .next (branchIf st.flags.v off st)

/-- 0x90 `BCC $nnnn` (R228). -/
def execBcc (off : Byte) (st : State) : Host.Outcome State Fault Refusal :=
  .next (branchIf (!st.flags.c) off st)

/-- 0xB0 `BCS $nnnn` (R229). -/
def execBcs (off : Byte) (st : State) : Host.Outcome State Fault Refusal :=
  .next (branchIf st.flags.c off st)

/-- 0xD0 `BNE $nnnn` (R230). -/
def execBne (off : Byte) (st : State) : Host.Outcome State Fault Refusal :=
  .next (branchIf (!st.flags.z) off st)

/-- 0xF0 `BEQ $nnnn` (R231). -/
def execBeq (off : Byte) (st : State) : Host.Outcome State Fault Refusal :=
  .next (branchIf st.flags.z off st)

/-- 0x00 `BRK` (R232): the padding byte is fetched and discarded, then the trap is taken. -/
def execBrk (st : State) : Host.Outcome State Fault Refusal :=
  .next (takeBreak st.fetched)

/-- 0x40 `RTI` (R233). -/
def execRti (st : State) : Host.Outcome State Fault Refusal :=
  .next (returnFromBreak st.tick.tick)

/-- 0xEA `NOP` (R234). -/
def execNop (st : State) : Host.Outcome State Fault Refusal :=
  .next st.tick

end Sys2Proof.Machine
end

