-- ==== Sys2Proof/Machine/LoadStore.lean ====
section
/-! DEFINITION. The meanings of the loads and stores (41_load_store.md). -/

namespace Sys2Proof.Machine

/-- LDA (R160) of a loaded operand: the register, and Z and N from it. -/
def loadA (r : Byte × State) : State :=
  { r.2 with a := r.1, flags := setZN r.1 r.2.flags }

/-- 0xA1 `LDA ($nn,X)` (R160). -/
def execLdaIndX (b : Byte) (st : State) : Host.Outcome State Fault Refusal :=
  .next (loadA (loadMem ((.indX b)) st))

/-- 0xA5 `LDA $nn` (R160). -/
def execLdaZp (b : Byte) (st : State) : Host.Outcome State Fault Refusal :=
  .next (loadA (loadMem ((.zp b)) st))

/-- 0xA9 `LDA #$nn` (R160). -/
def execLdaImm (v : Byte) (st : State) : Host.Outcome State Fault Refusal :=
  .next (loadA (loadImm v st))

/-- 0xAD `LDA $nnnn` (R160). -/
def execLdaAbs (w : Word) (st : State) : Host.Outcome State Fault Refusal :=
  .next (loadA (loadMem ((.abs w)) st))

/-- 0xB1 `LDA ($nn),Y` (R160). -/
def execLdaIndY (b : Byte) (st : State) : Host.Outcome State Fault Refusal :=
  .next (loadA (loadMem ((.indY b)) st))

/-- 0xB5 `LDA $nn,X` (R160). -/
def execLdaZpX (b : Byte) (st : State) : Host.Outcome State Fault Refusal :=
  .next (loadA (loadMem ((.zpX b)) st))

/-- 0xB9 `LDA $nnnn,Y` (R160). -/
def execLdaAbsY (w : Word) (st : State) : Host.Outcome State Fault Refusal :=
  .next (loadA (loadMem ((.absY w)) st))

/-- 0xBD `LDA $nnnn,X` (R160). -/
def execLdaAbsX (w : Word) (st : State) : Host.Outcome State Fault Refusal :=
  .next (loadA (loadMem ((.absX w)) st))

/-- LDX (R161) of a loaded operand: the register, and Z and N from it. -/
def loadX (r : Byte × State) : State :=
  { r.2 with x := r.1, flags := setZN r.1 r.2.flags }

/-- 0xA2 `LDX #$nn` (R161). -/
def execLdxImm (v : Byte) (st : State) : Host.Outcome State Fault Refusal :=
  .next (loadX (loadImm v st))

/-- 0xA6 `LDX $nn` (R161). -/
def execLdxZp (b : Byte) (st : State) : Host.Outcome State Fault Refusal :=
  .next (loadX (loadMem ((.zp b)) st))

/-- 0xAE `LDX $nnnn` (R161). -/
def execLdxAbs (w : Word) (st : State) : Host.Outcome State Fault Refusal :=
  .next (loadX (loadMem ((.abs w)) st))

/-- 0xB6 `LDX $nn,Y` (R161). -/
def execLdxZpY (b : Byte) (st : State) : Host.Outcome State Fault Refusal :=
  .next (loadX (loadMem ((.zpY b)) st))

/-- 0xBE `LDX $nnnn,Y` (R161). -/
def execLdxAbsY (w : Word) (st : State) : Host.Outcome State Fault Refusal :=
  .next (loadX (loadMem ((.absY w)) st))

/-- LDY (R162) of a loaded operand: the register, and Z and N from it. -/
def loadY (r : Byte × State) : State :=
  { r.2 with y := r.1, flags := setZN r.1 r.2.flags }

/-- 0xA0 `LDY #$nn` (R162). -/
def execLdyImm (v : Byte) (st : State) : Host.Outcome State Fault Refusal :=
  .next (loadY (loadImm v st))

/-- 0xA4 `LDY $nn` (R162). -/
def execLdyZp (b : Byte) (st : State) : Host.Outcome State Fault Refusal :=
  .next (loadY (loadMem ((.zp b)) st))

/-- 0xAC `LDY $nnnn` (R162). -/
def execLdyAbs (w : Word) (st : State) : Host.Outcome State Fault Refusal :=
  .next (loadY (loadMem ((.abs w)) st))

/-- 0xB4 `LDY $nn,X` (R162). -/
def execLdyZpX (b : Byte) (st : State) : Host.Outcome State Fault Refusal :=
  .next (loadY (loadMem ((.zpX b)) st))

/-- 0xBC `LDY $nnnn,X` (R162). -/
def execLdyAbsX (w : Word) (st : State) : Host.Outcome State Fault Refusal :=
  .next (loadY (loadMem ((.absX w)) st))

/-- 0x81 `STA ($nn,X)` (R163). -/
def execStaIndX (b : Byte) (st : State) : Host.Outcome State Fault Refusal :=
  .next (storeOperand ((.indX b)) st.a st)

/-- 0x85 `STA $nn` (R163). -/
def execStaZp (b : Byte) (st : State) : Host.Outcome State Fault Refusal :=
  .next (storeOperand ((.zp b)) st.a st)

/-- 0x8D `STA $nnnn` (R163). -/
def execStaAbs (w : Word) (st : State) : Host.Outcome State Fault Refusal :=
  .next (storeOperand ((.abs w)) st.a st)

/-- 0x91 `STA ($nn),Y` (R163). -/
def execStaIndY (b : Byte) (st : State) : Host.Outcome State Fault Refusal :=
  .next (storeOperand ((.indY b)) st.a st)

/-- 0x95 `STA $nn,X` (R163). -/
def execStaZpX (b : Byte) (st : State) : Host.Outcome State Fault Refusal :=
  .next (storeOperand ((.zpX b)) st.a st)

/-- 0x99 `STA $nnnn,Y` (R163). -/
def execStaAbsY (w : Word) (st : State) : Host.Outcome State Fault Refusal :=
  .next (storeOperand ((.absY w)) st.a st)

/-- 0x9D `STA $nnnn,X` (R163). -/
def execStaAbsX (w : Word) (st : State) : Host.Outcome State Fault Refusal :=
  .next (storeOperand ((.absX w)) st.a st)

/-- 0x86 `STX $nn` (R164). -/
def execStxZp (b : Byte) (st : State) : Host.Outcome State Fault Refusal :=
  .next (storeOperand ((.zp b)) st.x st)

/-- 0x8E `STX $nnnn` (R164). -/
def execStxAbs (w : Word) (st : State) : Host.Outcome State Fault Refusal :=
  .next (storeOperand ((.abs w)) st.x st)

/-- 0x96 `STX $nn,Y` (R164). -/
def execStxZpY (b : Byte) (st : State) : Host.Outcome State Fault Refusal :=
  .next (storeOperand ((.zpY b)) st.x st)

/-- 0x84 `STY $nn` (R165). -/
def execStyZp (b : Byte) (st : State) : Host.Outcome State Fault Refusal :=
  .next (storeOperand ((.zp b)) st.y st)

/-- 0x8C `STY $nnnn` (R165). -/
def execStyAbs (w : Word) (st : State) : Host.Outcome State Fault Refusal :=
  .next (storeOperand ((.abs w)) st.y st)

/-- 0x94 `STY $nn,X` (R165). -/
def execStyZpX (b : Byte) (st : State) : Host.Outcome State Fault Refusal :=
  .next (storeOperand ((.zpX b)) st.y st)

end Sys2Proof.Machine
end

