-- ==== Sys2Proof/Machine/StackTransferFlags.lean ====
section
/-! DEFINITION. The meanings of the stack, register-transfer and flag instructions (44_stack_transfer_flags.md). -/

namespace Sys2Proof.Machine

/-- PLA (R251) from the state after its two internal cycles. -/
def pullA (st : State) : State :=
  let r := pull st
  { r.2 with a := r.1, flags := setZN r.1 r.2.flags }

/-- PLP (R253) from the state after its two internal cycles. -/
def pullP (st : State) : State :=
  let r := pull st
  { r.2 with flags := unpackP r.1 r.2.flags }

/-- A transfer to A, with Z and N from the value moved (R256, R257). -/
def transferA (v : Byte) (st : State) : State := { st with a := v, flags := setZN v st.flags }

/-- A transfer to X, with Z and N from the value moved (R254, R258). -/
def transferX (v : Byte) (st : State) : State := { st with x := v, flags := setZN v st.flags }

/-- A transfer to Y, with Z and N from the value moved (R255). -/
def transferY (v : Byte) (st : State) : State := { st with y := v, flags := setZN v st.flags }

/-- 0x48 `PHA` (R250). -/
def execPha (st : State) : Host.Outcome State Fault Refusal :=
  .next (push st.a st.tick)

/-- 0x68 `PLA` (R251). -/
def execPla (st : State) : Host.Outcome State Fault Refusal :=
  .next (pullA st.tick.tick)

/-- 0x08 `PHP` (R252). -/
def execPhp (st : State) : Host.Outcome State Fault Refusal :=
  .next (push (packP true st.flags) st.tick)

/-- 0x28 `PLP` (R253). -/
def execPlp (st : State) : Host.Outcome State Fault Refusal :=
  .next (pullP st.tick.tick)

/-- 0xAA `TAX` (R254). -/
def execTax (st : State) : Host.Outcome State Fault Refusal :=
  .next (transferX st.a st.tick)

/-- 0xA8 `TAY` (R255). -/
def execTay (st : State) : Host.Outcome State Fault Refusal :=
  .next (transferY st.a st.tick)

/-- 0x8A `TXA` (R256). -/
def execTxa (st : State) : Host.Outcome State Fault Refusal :=
  .next (transferA st.x st.tick)

/-- 0x98 `TYA` (R257). -/
def execTya (st : State) : Host.Outcome State Fault Refusal :=
  .next (transferA st.y st.tick)

/-- 0xBA `TSX` (R258). -/
def execTsx (st : State) : Host.Outcome State Fault Refusal :=
  .next (transferX st.s st.tick)

/-- 0x9A `TXS` (R259): no flag changes. -/
def execTxs (st : State) : Host.Outcome State Fault Refusal :=
  .next { st.tick with s := st.x }

/-- 0x18 `CLC` (R260). -/
def execClc (st : State) : Host.Outcome State Fault Refusal :=
  .next { st.tick with flags := { st.flags with c := false } }

/-- 0x38 `SEC` (R261). -/
def execSec (st : State) : Host.Outcome State Fault Refusal :=
  .next { st.tick with flags := { st.flags with c := true } }

/-- 0x58 `CLI` (R262). -/
def execCli (st : State) : Host.Outcome State Fault Refusal :=
  .next { st.tick with flags := { st.flags with i := false } }

/-- 0x78 `SEI` (R263). -/
def execSei (st : State) : Host.Outcome State Fault Refusal :=
  .next { st.tick with flags := { st.flags with i := true } }

/-- 0xD8 `CLD` (R264). -/
def execCld (st : State) : Host.Outcome State Fault Refusal :=
  .next { st.tick with flags := { st.flags with d := false } }

/-- 0xF8 `SED` (R265). -/
def execSed (st : State) : Host.Outcome State Fault Refusal :=
  .next { st.tick with flags := { st.flags with d := true } }

/-- 0xB8 `CLV` (R266). -/
def execClv (st : State) : Host.Outcome State Fault Refusal :=
  .next { st.tick with flags := { st.flags with v := false } }

end Sys2Proof.Machine
end

