-- ==== Sys2Proof/Machine/Engine.lean ====
section
/-! DEFINITION. One pass of the Execute loop (40_engine.md R111, 60_exceptions.md R305): the checks, the opcode
fetch, the decoding, and the loading of a table word for the host. -/

namespace Sys2Proof.Machine

/-- The bytes at PC, as many as the longest instruction has, each at wrap16 of the next address
(30_encoding.md R80). Reading has no effect (20_memory.md R58). -/
def instrBytes (st : State) : List Byte :=
  [st.peek st.pc, st.peek (st.pc + 1#16), st.peek (st.pc + 2#16)]

/-- The instruction at PC, as the profile decodes it (R113). -/
def decodeAt (st : State) : Except DecodeError (Instr × List Byte) :=
  decode st.cfg.profile (instrBytes st)

/-- One pass of the Execute loop, in the order of R305: `reset_done`, the budget, the opcode fetch and its
decoding, the handler. The opcode fetch is billed here (R111); the handler bills the rest. -/
def engineStep (st : State) : Host.Outcome State Fault Refusal :=
  if st.resetDone then
    if st.cycles ≤ 0 then .fault .budgetExhausted
    else
      match decodeAt st with
      | .ok (i, _) => exec i st.fetched
      | .error _ => .fault (.unknownOpcode (st.peek st.pc) st.pc)
  else .refused .notReset

/-- Stores bytes at consecutive addresses, modulo 2^16, without billing: the host's pokes (20_memory.md R51,
R52). -/
def pokeBytes (a : Word) : List Byte → State → State
  | [], st => st
  | v :: vs, st => pokeBytes (a + 1#16) vs (st.poke a v)

/-- The counter of a call in progress: kept if positive, else that of Execute with budget 1, which runs
exactly one instruction (60_exceptions.md R312, log 9). -/
def runningCycles (c : Int) : Int := if c ≤ 0 then 1 else c

end Sys2Proof.Machine
end

