-- ==== Sys2Proof/Machine/Step.lean ====
section
/-! DEFINITION. The step of the machine: one pass of the Execute loop (60_exceptions.md R305). -/

namespace Sys2Proof.Machine

/-- One step: one pass of the Execute loop. -/
def step (s : State) : Host.Outcome State Fault Refusal := engineStep s

/-- The state with a table word poked at PC, where the next fetch reads it, inside an Execute call (log 9). -/
def State.withFetchWord (s : State) (nbits w : Nat) : State :=
  { pokeBytes s.pc (tableWordBytes nbits w) s with cycles := runningCycles s.cycles }

end Sys2Proof.Machine
end

