-- ==== Sys2Proof/Machine/Execute.lean ====
section
/-! DEFINITION. The host's boundary (00_scope.md R3, 70_reset_and_hazards.md R335): construction, Reset, memory and
register access between calls, and Execute with what it returns. -/

namespace Sys2Proof.Machine

/-! ## Construction and Reset -/

/-- A newly constructed Memory and Processor (70_reset_and_hazards.md R335): memory all zero (20_memory.md R51),
`reset_done` false (10_state.md R39). Its registers hold no value: they are those of the argument, of which
nothing is known (log 6). -/
def State.constructed (cfg : Config) (noValue : State) : State :=
  { noValue with cfg := cfg, mem := [], resetDone := false }

/-- `Initialise()` (20_memory.md R51): every byte 0. -/
def State.initialise (st : State) : State := { st with mem := [] }

/-- `Reset(memory)` (70_reset_and_hazards.md R330): it reads nothing, bills nothing and does not touch the
counter (R333). -/
def State.hostReset (st : State) : State :=
  let st' := st.initialise
  { st' with
    pc := 0xFFFC#16, s := 0x00#8
    a := 0x00#8, x := 0x00#8, y := 0x00#8
    flags := Flags.zero
    resetDone := true }

/-! ## Access between calls -/

/-- A host address, reduced modulo 2^16 (20_memory.md R52). -/
def hostAddr (a : Int) : Word := BitVec.ofInt 16 a

/-- `Read(address)` (R51). -/
def State.hostRead (st : State) (a : Int) : Byte := st.peek (hostAddr a)

/-- `Write(address, byte)` (R51): no register, no cycle. -/
def State.hostWrite (st : State) (a : Int) (v : Byte) : State := st.poke (hostAddr a) v

/-- `WriteWord(address, word)` (R51): little-endian, the second address modulo 2^16 (R52). -/
def State.hostWriteWord (st : State) (a : Int) (w : Word) : State :=
  (st.hostWrite a (lo8 w)).hostWrite (a + 1) (hi8 w)

/-- The registers and flags the host may read and write between calls (10_state.md R41). -/
structure Registers where
  a : Byte
  x : Byte
  y : Byte
  s : Byte
  pc : Word
  flags : Flags
  deriving DecidableEq, Repr

/-- The view SP = 0x0100 + S (10_state.md R27). -/
def Registers.sp (r : Registers) : Word := stackAddr r.s

/-- Inspection of the registers (10_state.md R41). Before the first Reset they hold no value (R39). -/
def State.hostRegisters (st : State) : Option Registers :=
  if st.resetDone then
    some { a := st.a, x := st.x, y := st.y, s := st.s, pc := st.pc, flags := st.flags }
  else none

/-- The host writes the registers and the flags between calls (10_state.md R41): a change to the launch state, not a
step. DESIGN CHOICE: the stored B is among the flags it may write (R34, R41, log 11). -/
def State.hostSetRegisters (st : State) (r : Registers) : State :=
  { st with a := r.a, x := r.x, y := r.y, s := r.s, pc := r.pc, flags := r.flags }

/-! ## Execute -/

/-- The outcome an Execute call returns (40_engine.md R110). -/
inductive ExecuteOutcome where
  | budgetExhausted
  | unknownOpcode (op : Byte) (addr : Word)
  deriving DecidableEq, Repr

/-- How an Execute call ends: it returns the cycles consumed, the outcome, and the state as it then
stands (R110), or it is refused (60_exceptions.md R303). -/
inductive ExecuteResult where
  | returned (consumed : Int) (outcome : ExecuteOutcome) (final : State)
  | refused (r : Refusal)
  deriving DecidableEq, Repr

/-- The Execute loop (R111), at most `fuel` passes; none when they do not suffice (log 8). UnknownOpcode
leaves exactly the opcode fetch's effect (60_exceptions.md R301). -/
def executeLoop (budget : Nat) : Nat → State → Option ExecuteResult
  | 0, _ => none
  | fuel + 1, st =>
    match step st with
    | .next t => executeLoop budget fuel t
    | .fault .budgetExhausted => some (.returned (budget - st.cycles) .budgetExhausted st)
    | .fault (.unknownOpcode op a) =>
      some (.returned (budget - st.fetched.cycles) (.unknownOpcode op a) st.fetched)
    | .refused r => some (.refused r)

/-- The host calls Execute: the counter is set to the budget (R111). -/
def State.startExecute (st : State) (budget : Nat) : State := { st with cycles := budget }

/-- `Execute(budget)` (R110, R111). Every pass that goes on bills at least one cycle, so `budget + 1`
passes suffice (log 8). -/
def execute (budget : Nat) (st : State) : Option ExecuteResult :=
  executeLoop budget (budget + 1) (st.startExecute budget)

end Sys2Proof.Machine
end

