-- ==== Sys2Proof/Safety.lean ====
section
/-! DEFINITION. What counts as a safe run, in the terms the claims use. -/

namespace Sys2Proof.Machine

/-- The invariant of a machine that has been reset: memory is in its canonical form, `reset_done` is set,
the stored B holds the 0 Reset gave it (10_state.md R34; a host that sets B leaves the invariant, log 11), and
the counter is above the deepest overrun (40_engine.md R123: `cycles >= -6`). -/
structure State.Inv (st : State) : Prop where
  mem_wf : Memory.wf st.mem = true
  reset_done : st.resetDone = true
  b_clear : st.flags.b = false
  overrun : -6 ≤ st.cycles

/-- A step is safe when it is not refused: it goes on, or Execute returns. -/
def State.StepSafe (st : State) : Prop := ∀ r, step st ≠ .refused r

/-- The states a run of steps passes through. -/
inductive Reaches : State → State → Prop where
  | refl (st : State) : Reaches st st
  | tail {st t u : State} : Reaches st t → step t = .next u → Reaches st u

end Sys2Proof.Machine
end

