-- ==== Sys2Proof/Certificates/Slice0/Obligations.lean ====
section
/-! DEFINITION. The statements for the provers. Each formalises rules of spec/, named in its docstring.

`exec i st` runs the handler of `i` in the state the opcode fetch leaves: PC is already past the opcode and the
opcode's cycle is already billed (40_engine.md R111). So a rule's cycle count `n` reads `cycles - (n - 1)`
here, and its operand bytes are still ahead of PC. An equation `exec i st = .next t` says the whole next state,
so it is the frame too: every register, flag and byte of memory that `t` does not write is as in `st`. -/

open Sys2Proof Sys2Proof.Machine

namespace Sys2Proof.Statements

/-! ## The rules' own formulas, on numbers where the rules have numbers -/

/-- `lo8` (00_scope.md R6). -/
def lo (w : Word) : Byte := BitVec.ofNat 8 (w.toNat % 256)

/-- `hi8` (R6). -/
def hi (w : Word) : Byte := BitVec.ofNat 8 (w.toNat / 256)

/-- `hi ∥ lo` (R6). -/
def word (h l : Byte) : Word := BitVec.ofNat 16 (256 * h.toNat + l.toNat)

/-- The page of an address (R12). -/
def page (a : Word) : Nat := a.toNat / 256

/-- An address in page 0 (R82). -/
def page0 (b : Byte) : Word := BitVec.ofNat 16 b.toNat

/-- An address in the stack page, `0x0100 + S` (10_state.md R27). -/
def page1 (s : Byte) : Word := BitVec.ofNat 16 (0x0100 + s.toNat)

/-- The word of a zero-page pointer, its second byte at `wrap8(p + 1)` (40_engine.md R133, R134). -/
def pointer (st : State) (p : Byte) : Word := word (st.peek (page0 (p + 1))) (st.peek (page0 p))

/-- The effective address of each mode (40_engine.md R127 to R134). -/
def effAddr (st : State) : AddrMode → Word
  | .zp b => page0 b
  | .zpX b => page0 (b + st.x)
  | .zpY b => page0 (b + st.y)
  | .abs w => w
  | .absX w => w + page0 st.x
  | .absY w => w + page0 st.y
  | .indX b => pointer st (b + st.x)
  | .indY b => pointer st b + page0 st.y

/-- The cycle of an indexed read that leaves the page of its base (40_engine.md R123). -/
def crossing (base ea : Word) : Int := if page base = page ea then 0 else 1

/-- The "cycles" column of the instructions that read an operand (R160, R184, R189 …), with the page-crossing
penalty of R123. -/
def readCycles (st : State) : Mode → Int
  | .imm _ => 2
  | .mem (.zp _) => 3
  | .mem (.zpX _) => 4
  | .mem (.zpY _) => 4
  | .mem (.abs _) => 4
  | .mem (.absX w) => 4 + crossing w (w + page0 st.x)
  | .mem (.absY w) => 4 + crossing w (w + page0 st.y)
  | .mem (.indX _) => 6
  | .mem (.indY b) => 5 + crossing (pointer st b) (pointer st b + page0 st.y)
  | _ => 0

/-- The "cycles" column of the stores (R163 to R165). -/
def writeCycles : AddrMode → Int
  | .zp _ => 3
  | .zpX _ => 4
  | .zpY _ => 4
  | .abs _ => 4
  | .absX _ => 5
  | .absY _ => 5
  | .indX _ => 6
  | .indY _ => 6

/-- The "cycles" column of the read-modify-write instructions (R193, R194, R199 to R202). -/
def rmwCycles : AddrMode → Int
  | .zp _ => 5
  | .zpX _ => 6
  | .abs _ => 6
  | .absX _ => 7
  | _ => 0

/-- The operand byte of an instruction that reads one (40_engine.md R126, R137). -/
def operandValue (st : State) : Mode → Byte
  | .imm v => v
  | .mem m => st.peek (effAddr st m)
  | _ => 0

/-- PC past `n` operand bytes, and an instruction of `total` cycles billed (its opcode fetch already was). -/
def spent (st : State) (n : Nat) (total : Int) : State :=
  { st with pc := st.pc + BitVec.ofNat 16 n, cycles := st.cycles - (total - 1) }

/-- `SetZN(r)` (40_engine.md R138). -/
def withZN (r : Byte) (f : Flags) : Flags :=
  { f with z := decide (r.toNat = 0), n := decide (128 ≤ r.toNat) }

/-- The status byte `PackP(1)` as a number (10_state.md R37). -/
def statusByte (f : Flags) : Byte :=
  BitVec.ofNat 8 (128 * f.n.toNat + 64 * f.v.toNat + 32 + 16 + 8 * f.d.toNat + 4 * f.i.toNat +
    2 * f.z.toNat + f.c.toNat)

/-- `UnpackP(p)` (10_state.md R37). -/
def fromStatusByte (p : Byte) (f : Flags) : Flags :=
  { f with
    n := decide (p.toNat / 128 % 2 = 1), v := decide (p.toNat / 64 % 2 = 1)
    d := decide (p.toNat / 8 % 2 = 1), i := decide (p.toNat / 4 % 2 = 1)
    z := decide (p.toNat / 2 % 2 = 1), c := decide (p.toNat % 2 = 1) }

/-- The "profile" column of the rules' tables: only NMOS151 decodes these instructions. -/
def OnlyNmos151 (mns : List Mnemonic) : Prop :=
  ∀ i : Instr, i.mnemonic ∈ mns → i.wf .nmos151 = true ∧ i.wf .doc4 = false

/-- Applies a change of state to the next state of an outcome. -/
def mapNext (g : State → State) : Host.Outcome State Fault Refusal → Host.Outcome State Fault Refusal
  | .next t => .next (g t)
  | .fault r => .fault r
  | .refused r => .refused r

/-- The 105 bytes of 30_encoding.md R86, in its order. -/
def undecoded : List Nat :=
  [0x02, 0x03, 0x04, 0x07, 0x0B, 0x0C, 0x0F, 0x12, 0x13, 0x14, 0x17, 0x1A, 0x1B, 0x1C, 0x1F, 0x22, 0x23, 0x27] ++
  [0x2B, 0x2F, 0x32, 0x33, 0x34, 0x37, 0x3A, 0x3B, 0x3C, 0x3F, 0x42, 0x43, 0x44, 0x47, 0x4B, 0x4F, 0x52, 0x53] ++
  [0x54, 0x57, 0x5A, 0x5B, 0x5C, 0x5F, 0x62, 0x63, 0x64, 0x67, 0x6B, 0x6F, 0x72, 0x73, 0x74, 0x77, 0x7A, 0x7B] ++
  [0x7C, 0x7F, 0x80, 0x82, 0x83, 0x87, 0x89, 0x8B, 0x8F, 0x92, 0x93, 0x97, 0x9B, 0x9C, 0x9E, 0x9F, 0xA3, 0xA7] ++
  [0xAB, 0xAF, 0xB2, 0xB3, 0xB7, 0xBB, 0xBF, 0xC2, 0xC3, 0xC7, 0xCB, 0xCF, 0xD2, 0xD3, 0xD4, 0xD7, 0xDA, 0xDB] ++
  [0xDC, 0xDF, 0xE2, 0xE3, 0xE7, 0xEB, 0xEF, 0xF2, 0xF3, 0xF4, 0xF7, 0xFA, 0xFB, 0xFC, 0xFF]

/-! ### The adder and subtractor on numbers -/

/-- The flags of an addition (40_engine.md R140): C the carry out, V the signed overflow. -/
def sumFlags (a m : Byte) (c : Bool) (f : Flags) : Flags :=
  let sum := a.toNat + m.toNat + c.toNat
  let signed : Int := a.toInt + m.toInt + c.toNat
  { withZN (BitVec.ofNat 8 sum) f with
    c := decide (256 ≤ sum), v := decide (signed < -128 ∨ 127 < signed) }

/-- The flags of a subtraction with borrow (R141): C means no borrow, V the signed overflow. -/
def differenceFlags (a m : Byte) (c : Bool) (f : Flags) : Flags :=
  let diff : Int := (a.toNat : Int) - m.toNat - (1 - c.toNat)
  let signed : Int := a.toInt - m.toInt - (1 - c.toNat)
  { withZN (BitVec.ofInt 8 diff) f with
    c := decide (0 ≤ diff), v := decide (signed < -128 ∨ 127 < signed) }

/-- `al` of AddDecimal (42_alu.md R181), with digits as remainders and quotients by 16. -/
def decimalLowSum (a m : Byte) (c : Bool) : Nat :=
  let d := a.toNat % 16 + m.toNat % 16 + c.toNat
  if 10 ≤ d then (d + 6) % 16 + 16 else d

/-- `t` of AddDecimal before the high-digit adjust (R181). -/
def decimalSum (a m : Byte) (c : Bool) : Nat :=
  16 * (a.toNat / 16) + 16 * (m.toNat / 16) + decimalLowSum a m c

/-- `t` of AddDecimal after the high-digit adjust (R181). -/
def decimalSumAdjusted (a m : Byte) (c : Bool) : Nat :=
  if 160 ≤ decimalSum a m c then decimalSum a m c + 96 else decimalSum a m c

/-- `s` of AddDecimal (R181): the signed sum of the high digits' bytes and `al`. -/
def decimalSignedSum (a m : Byte) (c : Bool) : Int :=
  (a.toInt - (a.toNat % 16 : Nat)) + (m.toInt - (m.toNat % 16 : Nat)) + (decimalLowSum a m c : Int)

/-- `al` of SubDecimal (R183). -/
def decimalLowDiff (a m : Byte) (c : Bool) : Int :=
  let d : Int := (a.toNat % 16 : Nat) - (m.toNat % 16 : Nat) + c.toNat - 1
  if d < 0 then (d - 6) % 16 - 16 else d

/-- `t` of SubDecimal before its adjust (R183). -/
def decimalDiff (a m : Byte) (c : Bool) : Int :=
  16 * (a.toNat / 16 : Nat) - 16 * (m.toNat / 16 : Nat) + decimalLowDiff a m c

/-- A byte of two decimal digits. -/
def validBcd (a : Byte) : Bool := decide (a.toNat / 16 ≤ 9 ∧ a.toNat % 16 ≤ 9)

/-- The number two decimal digits write. -/
def bcd (a : Byte) : Nat := 10 * (a.toNat / 16) + a.toNat % 16

/-! ### Shifts and rotates on numbers -/

/-- The byte a shift or rotate gives (42_alu.md R199 to R202), from the operand and the old carry. -/
def shifted (mn : Mnemonic) (v : Byte) (c : Bool) : Byte :=
  match mn with
  | .ASL => BitVec.ofNat 8 (2 * v.toNat)
  | .LSR => BitVec.ofNat 8 (v.toNat / 2)
  | .ROL => BitVec.ofNat 8 (2 * v.toNat + c.toNat)
  | .ROR => BitVec.ofNat 8 (v.toNat / 2 + 128 * c.toNat)
  | _ => v

/-- The bit a shift or rotate moves out (40_engine.md R143). -/
def shiftedOut (mn : Mnemonic) (v : Byte) : Bool :=
  match mn with
  | .ASL => decide (128 ≤ v.toNat)
  | .ROL => decide (128 ≤ v.toNat)
  | _ => decide (v.toNat % 2 = 1)

/-- The four shifts and rotates. -/
def shifts : List Mnemonic := [.ASL, .LSR, .ROL, .ROR]

/-- The condition of each branch (43_control.md R224 to R231). -/
def branchTaken (mn : Mnemonic) (f : Flags) : Bool :=
  match mn with
  | .BPL => f.n == false
  | .BMI => f.n == true
  | .BVC => f.v == false
  | .BVS => f.v == true
  | .BCC => f.c == false
  | .BCS => f.c == true
  | .BNE => f.z == false
  | .BEQ => f.z == true
  | _ => false

end Sys2Proof.Statements

open Sys2Proof.Statements

/-! # Encoding -/

/-- Decode and encode agree, for every instruction of a profile, whatever bytes follow (30_encoding.md
R80 to R82). -/
def Obligations.DecodeOfEncodeIsTheInstruction : Prop :=
  ∀ (p : Profile) (i : Instr) (rest : List Byte), i.wf p = true → decode p (encode i ++ rest) = .ok (i, rest)

/-- What decodes is an instruction of the profile and encodes to the bytes read: every opcode has one meaning
and no operand bit is dropped (R80 to R87). -/
def Obligations.EncodeOfDecodeIsTheBytes : Prop :=
  ∀ (p : Profile) (bytes : List Byte) (i : Instr) (rest : List Byte),
    decode p bytes = .ok (i, rest) → encode i ++ rest = bytes ∧ i.wf p = true

/-- Words written out from the opcode map (R84), DOC4's table (R85) and the formats (R81), at least one of each family
of 95_test_vectors.md L2 (loads and stores; add and subtract; logic, compare and BIT; increment, decrement, shift and
rotate; control transfer; stack, transfer and flags), decode to the instructions they stand for. -/
def Obligations.WordsOfEachFamilyDecode : Prop :=
  decode .nmos151 [0xA9#8, 0x42#8] = .ok (.ldaImm 0x42#8, []) ∧
  decode .nmos151 [0x96#8, 0x10#8] = .ok (.stxZpY 0x10#8, []) ∧
  decode .nmos151 [0x7D#8, 0x34#8, 0x12#8] = .ok (.adcAbsX 0x1234#16, []) ∧
  decode .nmos151 [0xF1#8, 0x20#8] = .ok (.sbcIndY 0x20#8, []) ∧
  decode .nmos151 [0x21#8, 0xFE#8] = .ok (.andIndX 0xFE#8, []) ∧
  decode .nmos151 [0xD9#8, 0x34#8, 0x12#8] = .ok (.cmpAbsY 0x1234#16, []) ∧
  decode .nmos151 [0x2C#8, 0x00#8, 0x30#8] = .ok (.bitAbs 0x3000#16, []) ∧
  decode .nmos151 [0xF6#8, 0x7F#8] = .ok (.incZpX 0x7F#8, []) ∧
  decode .nmos151 [0x6A#8, 0xFF#8] = .ok (.rorAcc, [0xFF#8]) ∧
  decode .nmos151 [0x6C#8, 0x00#8, 0x03#8] = .ok (.jmpInd 0x0300#16, []) ∧
  decode .nmos151 [0xD0#8, 0xFB#8] = .ok (.bne 0xFB#8, []) ∧
  decode .nmos151 [0x08#8] = .ok (.php, []) ∧
  decode .nmos151 [0xBA#8] = .ok (.tsx, []) ∧
  decode .nmos151 [0xF8#8] = .ok (.sed, []) ∧
  decode .doc4 [0x20#8, 0x34#8, 0x12#8] = .ok (.jsr 0x1234#16, [])

/-- The 105 bytes NMOS151 does not decode (R86), no more and no fewer; and one of them at PC ends the call with
`UnknownOpcode(op, pc0)`. -/
def Obligations.UndecodedBytesAreUnknownOpcodes : Prop :=
  undecoded.length = 105 ∧ undecoded.Nodup ∧
  (∀ op b1 b2 : Byte, decode .nmos151 [op, b1, b2] = .error (.unknownOpcode op) ↔ op.toNat ∈ undecoded) ∧
  (∀ st : State, st.cfg.profile = .nmos151 → st.resetDone = true → 0 < st.cycles →
    (st.peek st.pc).toNat ∈ undecoded → step st = .fault (.unknownOpcode (st.peek st.pc) st.pc))

/-- `DOC4` decodes exactly the four opcodes of R85 and every other byte is an unknown opcode. -/
def Obligations.Doc4DecodesExactlyFourOpcodes : Prop :=
  ∀ op b1 b2 : Byte, decode .doc4 [op, b1, b2] =
    if op = 0xA9#8 then .ok (.ldaImm b1, [b2])
    else if op = 0xA5#8 then .ok (.ldaZp b1, [b2])
    else if op = 0xB5#8 then .ok (.ldaZpX b1, [b2])
    else if op = 0x20#8 then .ok (.jsr (word b2 b1), [])
    else .error (.unknownOpcode op)

/-- The profile decides what is decoded and nothing else: every instruction has one meaning in both (R85, R113). -/
def Obligations.ProfileChangesNoMeaning : Prop :=
  ∀ (i : Instr) (st : State) (p : Profile),
    exec i { st with cfg := { st.cfg with profile := p } } =
      mapNext (fun t => { t with cfg := { t.cfg with profile := p } }) (exec i st)

/-! # Reset, the Execute loop, the host's boundary -/

/-- Reset, from any prior state, leaves the values of 70_reset_and_hazards.md R330, and a second Reset changes
nothing (R332). -/
def Obligations.ResetLeavesTheStatedValues : Prop :=
  (∀ st : State, st.hostReset.pc = 0xFFFC#16 ∧ st.hostReset.s = 0x00#8 ∧ stackAddr st.hostReset.s = 0x0100#16 ∧
    st.hostReset.a = 0x00#8 ∧ st.hostReset.x = 0x00#8 ∧ st.hostReset.y = 0x00#8 ∧
    st.hostReset.flags = { c := false, z := false, i := false, d := false, b := false, v := false, n := false } ∧
    (∀ a : Word, st.hostReset.peek a = 0x00#8) ∧ st.hostReset.resetDone = true) ∧
  (∀ st : State, st.hostReset.hostReset = st.hostReset)

/-- The invariant holds right after Reset. `State.reset` is the default machine Reset leaves; its counter, which
the spec gives no value, is the model's choice (log 2), as is that Reset leaves the counter alone (log 10). -/
def Obligations.ResetMeetsTheInvariant : Prop :=
  State.reset.hostReset = State.reset ∧ State.reset.Inv ∧ ∀ st : State, -6 ≤ st.cycles → st.hostReset.Inv

/-- Every step keeps the invariant: memory stays in canonical form, `reset_done` stays set, the stored B stays 0
(10_state.md R34, where the host has not written it, log 11), the counter never falls below -6 (40_engine.md R123). -/
def Obligations.EveryStepKeepsTheInvariant : Prop :=
  ∀ st t : State, st.Inv → step st = .next t → t.Inv

/-- A step is the handler of the instruction at PC, run after the opcode fetch (40_engine.md R111, R115). -/
def Obligations.StepRunsTheDecodedInstruction : Prop :=
  ∀ (st : State) (i : Instr) (rest : List Byte), st.resetDone = true → 0 < st.cycles →
    decode st.cfg.profile [st.peek st.pc, st.peek (st.pc + 1), st.peek (st.pc + 2)] = .ok (i, rest) →
    step st = exec i { st with pc := st.pc + 1, cycles := st.cycles - 1 }

/-- The order of a step's checks (60_exceptions.md R305): `reset_done`, the budget, the opcode, the handler. The
unknown opcode is reported although its fetch brings the counter to 0; the handler can refuse only as
DecimalRefused. That BudgetExhausted, a normal return, is a fault of the step is the model's choice (log 3). -/
def Obligations.StepChecksInOrder : Prop :=
  ∀ st : State,
    (st.resetDone = false → step st = .refused .notReset) ∧
    (st.resetDone = true → st.cycles ≤ 0 → step st = .fault .budgetExhausted) ∧
    (st.resetDone = true → 0 < st.cycles →
      (∀ i rest, decode st.cfg.profile [st.peek st.pc, st.peek (st.pc + 1), st.peek (st.pc + 2)] ≠ .ok (i, rest)) →
      step st = .fault (.unknownOpcode (st.peek st.pc) st.pc)) ∧
    (∀ i rest, st.resetDone = true → 0 < st.cycles →
      decode st.cfg.profile [st.peek st.pc, st.peek (st.pc + 1), st.peek (st.pc + 2)] = .ok (i, rest) →
      (∃ t, step st = .next t) ∨ step st = .refused .decimalRefused)

/-- Once decoded, every instruction completes, "except ADC and SBC under `DECIMAL_MODE = refuse` with D = 1"
(60_exceptions.md R302), which are refused as DecimalRefused (R303). -/
def Obligations.HandlersCompleteUnlessDecimalIsRefused : Prop :=
  ∀ (i : Instr) (st : State),
    if (i.mnemonic = .ADC ∨ i.mnemonic = .SBC) ∧ st.flags.d = true ∧ st.cfg.decimalMode = .refuse then
      exec i st = .refused .decimalRefused
    else ∃ t, exec i st = .next t

/-- A machine that has been reset and has DECIMAL_MODE = nmos is never refused, along any run (60_exceptions.md
R303, R305). -/
def Obligations.ResetNmosRunsAreNeverRefused : Prop :=
  ∀ st t : State, st.resetDone = true → st.cfg.decimalMode = .nmos → Reaches st t → t.StepSafe

/-- No step changes the parameters, `reset_done` or the stored B (10_state.md R34, R39). -/
def Obligations.StepsKeepParametersMarkerAndB : Prop :=
  ∀ st t : State, step st = .next t →
    t.cfg = st.cfg ∧ t.resetDone = st.resetDone ∧ t.flags.b = st.flags.b

/-- Execute ends for every budget (70_reset_and_hazards.md R339), having consumed at most 6 cycles more than
the budget (40_engine.md R110, R123); on BudgetExhausted all of the budget was consumed. It can only be refused as
DecimalRefused, under DECIMAL_MODE = refuse. -/
def Obligations.ExecuteReturnsWithinTheOverrun : Prop :=
  ∀ (budget : Nat) (st : State), st.resetDone = true →
    (∃ (consumed : Int) (outcome : ExecuteOutcome) (final : State),
      execute budget st = some (.returned consumed outcome final) ∧
      consumed = budget - final.cycles ∧ 0 ≤ consumed ∧ consumed ≤ budget + 6 ∧
      (outcome = .budgetExhausted → (budget : Int) ≤ consumed)) ∨
    (st.cfg.decimalMode = .refuse ∧ execute budget st = some (.refused .decimalRefused))

/-- Two calls run the same instructions as one call of the sum of their budgets when the first does not overrun
(70_reset_and_hazards.md R341). -/
def Obligations.ExecuteOfTwoBudgetsComposes : Prop :=
  ∀ (b1 b2 : Nat) (st mid : State),
    execute b1 st = some (.returned b1 .budgetExhausted mid) →
    execute (b1 + b2) st =
      match execute b2 mid with
      | some (.returned consumed outcome final) => some (.returned (b1 + consumed) outcome final)
      | other => other

/-- No instruction reads the counter (60_exceptions.md R309): moved by `k`, it makes no difference but to itself. -/
def Obligations.NoInstructionReadsTheCounter : Prop :=
  ∀ (i : Instr) (st : State) (k : Int),
    exec i { st with cycles := st.cycles + k } = mapNext (fun t => { t with cycles := t.cycles + k }) (exec i st)

/-- A budget of 0 fetches nothing (40_engine.md R111), and a budget of 1 runs exactly one instruction
(60_exceptions.md R312). -/
def Obligations.BudgetZeroRunsNothingAndOneRunsOne : Prop :=
  (∀ st : State, st.resetDone = true →
    execute 0 st = some (.returned 0 .budgetExhausted { st with cycles := 0 })) ∧
  (∀ st t : State, step { st with cycles := 1 } = .next t →
    execute 1 st = some (.returned (1 - t.cycles) .budgetExhausted t))

/-- An unknown opcode ends the call at once with `(op, pc0)`, one cycle consumed, and the state exactly that of
the opcode fetch (60_exceptions.md R301). -/
def Obligations.UnknownOpcodeLeavesTheFetchAlone : Prop :=
  ∀ (budget : Nat) (st : State), st.resetDone = true → 0 < budget →
    (∀ i rest, decode st.cfg.profile [st.peek st.pc, st.peek (st.pc + 1), st.peek (st.pc + 2)] ≠ .ok (i, rest)) →
    execute budget st =
      some (.returned 1 (.unknownOpcode (st.peek st.pc) st.pc)
        { st with pc := st.pc + 1, cycles := (budget : Int) - 1 })

/-- Before the first Reset Execute is refused (70_reset_and_hazards.md R334), with no state change, and the
registers hold no value to inspect (10_state.md R39); a constructed machine is in that condition. -/
def Obligations.ExecuteBeforeResetIsRefused : Prop :=
  (∀ (budget : Nat) (st : State), st.resetDone = false →
    execute budget st = some (.refused .notReset) ∧ st.hostRegisters = none) ∧
  ∀ (cfg : Config) (noValue : State), (State.constructed cfg noValue).resetDone = false

/-- The cycles of an instruction, its opcode fetch counted, are 2 to 7 (40_engine.md R123: "The largest total
is 7"). -/
def Obligations.InstructionsTakeTwoToSevenCycles : Prop :=
  ∀ (i : Instr) (st t : State), exec i st = .next t →
    2 ≤ (st.cycles + 1) - t.cycles ∧ (st.cycles + 1) - t.cycles ≤ 7

/-- The host's memory operations (20_memory.md R51): a read gives the last byte written, WriteWord is
little-endian with its second address modulo 2^16 (R52), Initialise zeroes, none touches a register or the counter,
and memory reads 0 from construction. -/
def Obligations.HostMemoryOperations : Prop :=
  ∀ (st : State) (a c : Int) (v : Byte) (w : Word), Memory.wf st.mem = true →
    (st.hostWrite a v).hostRead c =
      (if c % 65536 = a % 65536 then v else st.hostRead c) ∧
    (st.hostWriteWord a w).hostRead c =
      (if c % 65536 = (a + 1) % 65536 then hi w else if c % 65536 = a % 65536 then lo w else st.hostRead c) ∧
    st.initialise.hostRead c = 0x00#8 ∧
    st.hostWrite a v = { st with mem := (st.hostWrite a v).mem } ∧
    st.hostWriteWord a w = { st with mem := (st.hostWriteWord a w).mem } ∧
    st.initialise = { st with mem := st.initialise.mem } ∧
    (∀ cfg : Config, (State.constructed cfg st).hostRead c = 0x00#8)

/-- Memory is plain data in one canonical form: two canonical memories that read alike at every address are
equal. This is a property of the model's representation, not a rule of the spec. -/
def Obligations.CanonicalMemoriesThatReadAlikeAreEqual : Prop :=
  ∀ m m' : Memory, Memory.wf m = true → Memory.wf m' = true →
    (∀ a : Word, Memory.read m a.toNat = Memory.read m' a.toNat) → m = m'

/-! # Whole-machine rules: which instructions write what -/

/-- Only the listed instructions write A, X, Y and S (10_state.md R21, R22, R23, R28). -/
def Obligations.OnlyTheListedInstructionsWriteRegisters : Prop :=
  ∀ (i : Instr) (st t : State), exec i st = .next t →
    (i.mnemonic ∉ [.LDA, .PLA, .TXA, .TYA, .AND, .ORA, .EOR, .ADC, .SBC] →
      ¬ (i.mnemonic ∈ shifts ∧ i.mode = .acc) → t.a = st.a) ∧
    (i.mnemonic ∉ [.LDX, .TAX, .TSX, .INX, .DEX] → t.x = st.x) ∧
    (i.mnemonic ∉ [.LDY, .TAY, .INY, .DEY] → t.y = st.y) ∧
    (i.mnemonic ∉ [.JSR, .RTS, .BRK, .RTI, .PHA, .PLA, .PHP, .PLP, .TXS] → t.s = st.s)

/-- Only the listed instructions write each flag (10_state.md R30 to R36); nothing writes the stored B. -/
def Obligations.OnlyTheListedInstructionsWriteFlags : Prop :=
  ∀ (i : Instr) (st t : State), exec i st = .next t →
    (i.mnemonic ∉ [.ADC, .SBC, .CMP, .CPX, .CPY, .ASL, .LSR, .ROL, .ROR, .CLC, .SEC, .PLP, .RTI] →
      t.flags.c = st.flags.c) ∧
    (i.mnemonic ∉ [.LDA, .LDX, .LDY, .TAX, .TAY, .TXA, .TYA, .TSX, .PLA, .INX, .INY, .DEX, .DEY, .INC, .DEC,
        .AND, .ORA, .EOR, .ADC, .SBC, .ASL, .LSR, .ROL, .ROR, .CMP, .CPX, .CPY, .BIT, .PLP, .RTI] →
      t.flags.z = st.flags.z ∧ t.flags.n = st.flags.n) ∧
    (i.mnemonic ∉ [.CLI, .SEI, .PLP, .RTI, .BRK] → t.flags.i = st.flags.i) ∧
    (i.mnemonic ∉ [.CLD, .SED, .PLP, .RTI] → t.flags.d = st.flags.d) ∧
    (i.mnemonic ∉ [.ADC, .SBC, .BIT, .CLV, .PLP, .RTI] → t.flags.v = st.flags.v) ∧
    t.flags.b = st.flags.b

/-- PC advances past the operand bytes and no further, but for the control transfers (10_state.md R25, R26). -/
def Obligations.OnlyControlTransfersRedirectThePC : Prop :=
  ∀ (i : Instr) (st t : State), exec i st = .next t →
    i.mnemonic ∉ [.JSR, .JMP, .RTS, .BPL, .BMI, .BVC, .BVS, .BCC, .BCS, .BNE, .BEQ, .BRK, .RTI] →
    t.pc = st.pc + BitVec.ofNat 16 i.mode.operandBytes

/-- Only stores, read-modify-write instructions on memory and pushes write memory (20_memory.md R56, R58). -/
def Obligations.OnlyStoresModifiesAndPushesWriteMemory : Prop :=
  ∀ (i : Instr) (st t : State), exec i st = .next t →
    i.mnemonic ∉ [.STA, .STX, .STY, .INC, .DEC, .JSR, .BRK, .PHA, .PHP] →
    ¬ (i.mnemonic ∈ shifts ∧ i.mode ≠ .acc) → t.mem = st.mem

/-- The stack never leaves page 1 (20_memory.md R64): JSR, BRK, PHA and PHP change no byte outside it. -/
def Obligations.PushesStayInPageOne : Prop :=
  ∀ (i : Instr) (st t : State), i.mnemonic ∈ [.JSR, .BRK, .PHA, .PHP] → Memory.wf st.mem = true →
    exec i st = .next t → ∀ a : Word, page a ≠ 1 → t.peek a = st.peek a

/-! # Loads and stores -/

/-- LDA (41_load_store.md R160), all eight forms: ldaImm, ldaZp, ldaZpX, ldaAbs, ldaAbsX, ldaAbsY, ldaIndX,
ldaIndY. -/
def Obligations.LdaLoadsTheAccumulator : Prop :=
  (∀ (b v : Byte) (w : Word),
      encode (.ldaIndX b) = [0xA1#8, b] ∧ encode (.ldaZp b) = [0xA5#8, b] ∧ encode (.ldaImm v) = [0xA9#8, v] ∧
      encode (.ldaAbs w) = [0xAD#8, lo w, hi w] ∧ encode (.ldaIndY b) = [0xB1#8, b] ∧
      encode (.ldaZpX b) = [0xB5#8, b] ∧ encode (.ldaAbsY w) = [0xB9#8, lo w, hi w] ∧
      encode (.ldaAbsX w) = [0xBD#8, lo w, hi w]) ∧
  (∀ i : Instr, i.mnemonic = .LDA → i.wf .nmos151 = true ∧
    (i.wf .doc4 = true ↔ ∃ b : Byte, i = .ldaImm b ∨ i = .ldaZp b ∨ i = .ldaZpX b)) ∧
  ∀ (i : Instr) (st : State), i.mnemonic = .LDA →
    exec i st = .next
      { spent st i.mode.operandBytes (readCycles st i.mode) with
        a := operandValue st i.mode
        flags := withZN (operandValue st i.mode) st.flags }

/-- LDX and LDY (R161, R162), all ten forms: ldxImm, ldxZp, ldxZpY, ldxAbs, ldxAbsY, ldyImm, ldyZp, ldyZpX,
ldyAbs, ldyAbsX. -/
def Obligations.LdxAndLdyLoadTheIndexRegisters : Prop :=
  (∀ (v b : Byte) (w : Word),
      encode (.ldxImm v) = [0xA2#8, v] ∧ encode (.ldxZp b) = [0xA6#8, b] ∧
      encode (.ldxAbs w) = [0xAE#8, lo w, hi w] ∧ encode (.ldxZpY b) = [0xB6#8, b] ∧
      encode (.ldxAbsY w) = [0xBE#8, lo w, hi w] ∧ encode (.ldyImm v) = [0xA0#8, v] ∧
      encode (.ldyZp b) = [0xA4#8, b] ∧ encode (.ldyAbs w) = [0xAC#8, lo w, hi w] ∧
      encode (.ldyZpX b) = [0xB4#8, b] ∧ encode (.ldyAbsX w) = [0xBC#8, lo w, hi w]) ∧
  OnlyNmos151 [.LDX, .LDY] ∧
  ∀ (i : Instr) (st : State),
    (i.mnemonic = .LDX → exec i st = .next
      { spent st i.mode.operandBytes (readCycles st i.mode) with
        x := operandValue st i.mode
        flags := withZN (operandValue st i.mode) st.flags }) ∧
    (i.mnemonic = .LDY → exec i st = .next
      { spent st i.mode.operandBytes (readCycles st i.mode) with
        y := operandValue st i.mode
        flags := withZN (operandValue st i.mode) st.flags })

/-- STA, STX and STY (R163, R164, R165), all thirteen forms: staZp, staZpX, staAbs, staAbsX, staAbsY, staIndX,
staIndY, stxZp, stxZpY, stxAbs, styZp, styZpX, styAbs. The byte at the effective address is the register, every
other byte reads as before, and nothing else changes but PC and the counter. There is no immediate form: 0x89 is an
unknown opcode. -/
def Obligations.StoresWriteOneByte : Prop :=
  (∀ (b : Byte) (w : Word),
      encode (.staIndX b) = [0x81#8, b] ∧ encode (.staZp b) = [0x85#8, b] ∧
      encode (.staAbs w) = [0x8D#8, lo w, hi w] ∧ encode (.staIndY b) = [0x91#8, b] ∧
      encode (.staZpX b) = [0x95#8, b] ∧ encode (.staAbsY w) = [0x99#8, lo w, hi w] ∧
      encode (.staAbsX w) = [0x9D#8, lo w, hi w] ∧ encode (.stxZp b) = [0x86#8, b] ∧
      encode (.stxAbs w) = [0x8E#8, lo w, hi w] ∧ encode (.stxZpY b) = [0x96#8, b] ∧
      encode (.styZp b) = [0x84#8, b] ∧ encode (.styAbs w) = [0x8C#8, lo w, hi w] ∧
      encode (.styZpX b) = [0x94#8, b]) ∧
  OnlyNmos151 [.STA, .STX, .STY] ∧
  (∀ (p : Profile) (b : Byte), decode p [0x89#8, b] = .error (.unknownOpcode 0x89#8)) ∧
  ∀ (i : Instr) (st : State) (m : AddrMode) (v : Byte), i.mode = .mem m →
    (i.mnemonic = .STA ∧ v = st.a ∨ i.mnemonic = .STX ∧ v = st.x ∨ i.mnemonic = .STY ∧ v = st.y) →
    ∃ t, exec i st = .next t ∧
      t = { spent st m.operandBytes (writeCycles m) with mem := t.mem } ∧
      (Memory.wf st.mem = true → ∀ a : Word, t.peek a = if a = effAddr st m then v else st.peek a)

/-! # Arithmetic -/

/-- ADC (42_alu.md R180, R181, R184), all eight forms: adcImm, adcZp, adcZpX, adcAbs, adcAbsX, adcAbsY, adcIndX,
adcIndY. In binary mode V is the signed overflow (40_engine.md R140). In decimal mode, for every pair of bytes, N
and V come from before the high-digit adjust, Z from the binary sum, C and A from after the adjust. Under
DECIMAL_MODE = refuse the decimal form is refused. -/
def Obligations.AdcAddsInBothModes : Prop :=
  (∀ (b v : Byte) (w : Word),
      encode (.adcIndX b) = [0x61#8, b] ∧ encode (.adcZp b) = [0x65#8, b] ∧ encode (.adcImm v) = [0x69#8, v] ∧
      encode (.adcAbs w) = [0x6D#8, lo w, hi w] ∧ encode (.adcIndY b) = [0x71#8, b] ∧
      encode (.adcZpX b) = [0x75#8, b] ∧ encode (.adcAbsY w) = [0x79#8, lo w, hi w] ∧
      encode (.adcAbsX w) = [0x7D#8, lo w, hi w]) ∧
  OnlyNmos151 [.ADC] ∧
  ∀ (i : Instr) (st : State), i.mnemonic = .ADC →
    let m := operandValue st i.mode
    let c := st.flags.c
    (st.flags.d = false →
      exec i st = .next
        { spent st i.mode.operandBytes (readCycles st i.mode) with
          a := BitVec.ofNat 8 (st.a.toNat + m.toNat + c.toNat)
          flags := sumFlags st.a m c st.flags }) ∧
    (st.flags.d = true → st.cfg.decimalMode = .nmos →
      exec i st = .next
        { spent st i.mode.operandBytes (readCycles st i.mode) with
          a := BitVec.ofNat 8 (decimalSumAdjusted st.a m c)
          flags := { st.flags with
            n := decide (decimalSum st.a m c / 128 % 2 = 1)
            v := decide (decimalSignedSum st.a m c < -128 ∨ 127 < decimalSignedSum st.a m c)
            z := decide ((st.a.toNat + m.toNat + c.toNat) % 256 = 0)
            c := decide (256 ≤ decimalSumAdjusted st.a m c) } }) ∧
    (st.flags.d = true → st.cfg.decimalMode = .refuse → exec i st = .refused .decimalRefused)

/-- ADC of two-digit decimal numbers gives their decimal sum and its carry (a consequence of R181). -/
def Obligations.AdcAddsDecimalNumbers : Prop :=
  ∀ (i : Instr) (st : State), i.mnemonic = .ADC → st.flags.d = true → st.cfg.decimalMode = .nmos →
    validBcd st.a = true → validBcd (operandValue st i.mode) = true →
    ∃ t, exec i st = .next t ∧ validBcd t.a = true ∧
      bcd t.a + 100 * t.flags.c.toNat = bcd st.a + bcd (operandValue st i.mode) + st.flags.c.toNat

/-- SBC (42_alu.md R182, R183, R185), all eight forms: sbcImm, sbcZp, sbcZpX, sbcAbs, sbcAbsX, sbcAbsY, sbcIndX,
sbcIndY. V is the signed overflow (40_engine.md R141). In decimal mode, for every pair of bytes, only A differs from
binary mode. Under DECIMAL_MODE = refuse the decimal form is refused. -/
def Obligations.SbcSubtractsInBothModes : Prop :=
  (∀ (b v : Byte) (w : Word),
      encode (.sbcIndX b) = [0xE1#8, b] ∧ encode (.sbcZp b) = [0xE5#8, b] ∧ encode (.sbcImm v) = [0xE9#8, v] ∧
      encode (.sbcAbs w) = [0xED#8, lo w, hi w] ∧ encode (.sbcIndY b) = [0xF1#8, b] ∧
      encode (.sbcZpX b) = [0xF5#8, b] ∧ encode (.sbcAbsY w) = [0xF9#8, lo w, hi w] ∧
      encode (.sbcAbsX w) = [0xFD#8, lo w, hi w]) ∧
  OnlyNmos151 [.SBC] ∧
  ∀ (i : Instr) (st : State), i.mnemonic = .SBC →
    let m := operandValue st i.mode
    let c := st.flags.c
    (st.flags.d = false →
      exec i st = .next
        { spent st i.mode.operandBytes (readCycles st i.mode) with
          a := BitVec.ofInt 8 ((st.a.toNat : Int) - m.toNat - (1 - c.toNat))
          flags := differenceFlags st.a m c st.flags }) ∧
    (st.flags.d = true → st.cfg.decimalMode = .nmos →
      exec i st = .next
        { spent st i.mode.operandBytes (readCycles st i.mode) with
          a := BitVec.ofInt 8 (if decimalDiff st.a m c < 0 then decimalDiff st.a m c - 96 else decimalDiff st.a m c)
          flags := differenceFlags st.a m c st.flags }) ∧
    (st.flags.d = true → st.cfg.decimalMode = .refuse → exec i st = .refused .decimalRefused)

/-- SBC of two-digit decimal numbers gives their decimal difference modulo 100, C meaning no borrow (a consequence
of R182, R183). -/
def Obligations.SbcSubtractsDecimalNumbers : Prop :=
  ∀ (i : Instr) (st : State), i.mnemonic = .SBC → st.flags.d = true → st.cfg.decimalMode = .nmos →
    validBcd st.a = true → validBcd (operandValue st i.mode) = true →
    ∃ t, exec i st = .next t ∧ validBcd t.a = true ∧
      (bcd t.a : Int) - 100 * (1 - t.flags.c.toNat) =
        (bcd st.a : Int) - bcd (operandValue st i.mode) - (1 - st.flags.c.toNat)

/-- In binary mode SBC of an operand is ADC of its complement (40_engine.md R141, 42_alu.md R182). -/
def Obligations.SbcIsAdcOfTheComplement : Prop :=
  ∀ (st : State) (v : Byte), st.flags.d = false → exec (.sbcImm v) st = exec (.adcImm (~~~v)) st

/-! # Logic, compare, bit test -/

/-- AND, ORA and EOR (R186, R187, R188), all 24 forms: each with Imm, Zp, ZpX, Abs, AbsX, AbsY, IndX, IndY. -/
def Obligations.LogicOnTheAccumulator : Prop :=
  (∀ (b v : Byte) (w : Word),
      encode (.andIndX b) = [0x21#8, b] ∧ encode (.andZp b) = [0x25#8, b] ∧ encode (.andImm v) = [0x29#8, v] ∧
      encode (.andAbs w) = [0x2D#8, lo w, hi w] ∧ encode (.andIndY b) = [0x31#8, b] ∧
      encode (.andZpX b) = [0x35#8, b] ∧ encode (.andAbsY w) = [0x39#8, lo w, hi w] ∧
      encode (.andAbsX w) = [0x3D#8, lo w, hi w] ∧ encode (.oraIndX b) = [0x01#8, b] ∧
      encode (.oraZp b) = [0x05#8, b] ∧ encode (.oraImm v) = [0x09#8, v] ∧
      encode (.oraAbs w) = [0x0D#8, lo w, hi w] ∧ encode (.oraIndY b) = [0x11#8, b] ∧
      encode (.oraZpX b) = [0x15#8, b] ∧ encode (.oraAbsY w) = [0x19#8, lo w, hi w] ∧
      encode (.oraAbsX w) = [0x1D#8, lo w, hi w] ∧ encode (.eorIndX b) = [0x41#8, b] ∧
      encode (.eorZp b) = [0x45#8, b] ∧ encode (.eorImm v) = [0x49#8, v] ∧
      encode (.eorAbs w) = [0x4D#8, lo w, hi w] ∧ encode (.eorIndY b) = [0x51#8, b] ∧
      encode (.eorZpX b) = [0x55#8, b] ∧ encode (.eorAbsY w) = [0x59#8, lo w, hi w] ∧
      encode (.eorAbsX w) = [0x5D#8, lo w, hi w]) ∧
  OnlyNmos151 [.AND, .ORA, .EOR] ∧
  ∀ (i : Instr) (st : State) (r : Byte),
    (i.mnemonic = .AND ∧ r = st.a &&& operandValue st i.mode ∨
      i.mnemonic = .ORA ∧ r = st.a ||| operandValue st i.mode ∨
      i.mnemonic = .EOR ∧ r = st.a ^^^ operandValue st i.mode) →
    exec i st = .next
      { spent st i.mode.operandBytes (readCycles st i.mode) with a := r, flags := withZN r st.flags }

/-- CMP, CPX and CPY (R189, R190, R191; 40_engine.md R142), all 14 forms: cmpImm, cmpZp, cmpZpX, cmpAbs, cmpAbsX,
cmpAbsY, cmpIndX, cmpIndY, cpxImm, cpxZp, cpxAbs, cpyImm, cpyZp, cpyAbs. C is the unsigned comparison, Z equality,
N bit 7 of the wrapped difference, in decimal mode too. -/
def Obligations.ComparesSetCarryZeroNegative : Prop :=
  (∀ (b v : Byte) (w : Word),
      encode (.cmpIndX b) = [0xC1#8, b] ∧ encode (.cmpZp b) = [0xC5#8, b] ∧ encode (.cmpImm v) = [0xC9#8, v] ∧
      encode (.cmpAbs w) = [0xCD#8, lo w, hi w] ∧ encode (.cmpIndY b) = [0xD1#8, b] ∧
      encode (.cmpZpX b) = [0xD5#8, b] ∧ encode (.cmpAbsY w) = [0xD9#8, lo w, hi w] ∧
      encode (.cmpAbsX w) = [0xDD#8, lo w, hi w] ∧ encode (.cpxImm v) = [0xE0#8, v] ∧
      encode (.cpxZp b) = [0xE4#8, b] ∧ encode (.cpxAbs w) = [0xEC#8, lo w, hi w] ∧
      encode (.cpyImm v) = [0xC0#8, v] ∧ encode (.cpyZp b) = [0xC4#8, b] ∧
      encode (.cpyAbs w) = [0xCC#8, lo w, hi w]) ∧
  OnlyNmos151 [.CMP, .CPX, .CPY] ∧
  ∀ (i : Instr) (st : State) (g : Byte),
    (i.mnemonic = .CMP ∧ g = st.a ∨ i.mnemonic = .CPX ∧ g = st.x ∨ i.mnemonic = .CPY ∧ g = st.y) →
    exec i st = .next
      { spent st i.mode.operandBytes (readCycles st i.mode) with
        flags := { st.flags with
          c := decide ((operandValue st i.mode).toNat ≤ g.toNat)
          z := decide (g = operandValue st i.mode)
          n := decide (128 ≤ ((g.toNat : Int) - (operandValue st i.mode).toNat) % 256) } }

/-- BIT (R192), both forms: bitZp, bitAbs; no immediate form. -/
def Obligations.BitTestsMemory : Prop :=
  (∀ (b : Byte) (w : Word),
      encode (.bitZp b) = [0x24#8, b] ∧ encode (.bitAbs w) = [0x2C#8, lo w, hi w]) ∧
  OnlyNmos151 [.BIT] ∧
  (∀ (p : Profile) (b : Byte), decode p [0x89#8, b] = .error (.unknownOpcode 0x89#8)) ∧
  ∀ (i : Instr) (st : State), i.mnemonic = .BIT →
    exec i st = .next
      { spent st i.mode.operandBytes (readCycles st i.mode) with
        flags := { st.flags with
          z := decide (st.a &&& operandValue st i.mode = 0)
          n := decide ((operandValue st i.mode).toNat / 128 % 2 = 1)
          v := decide ((operandValue st i.mode).toNat / 64 % 2 = 1) } }

/-! # Increment, decrement, shifts -/

/-- INC and DEC (R193, R194), all eight forms: incZp, incZpX, incAbs, incAbsX, decZp, decZpX, decAbs, decAbsX. The
byte at the effective address is replaced, every other byte reads as before. -/
def Obligations.IncAndDecModifyMemory : Prop :=
  (∀ (b : Byte) (w : Word),
      encode (.incZp b) = [0xE6#8, b] ∧ encode (.incAbs w) = [0xEE#8, lo w, hi w] ∧
      encode (.incZpX b) = [0xF6#8, b] ∧ encode (.incAbsX w) = [0xFE#8, lo w, hi w] ∧
      encode (.decZp b) = [0xC6#8, b] ∧ encode (.decAbs w) = [0xCE#8, lo w, hi w] ∧
      encode (.decZpX b) = [0xD6#8, b] ∧ encode (.decAbsX w) = [0xDE#8, lo w, hi w]) ∧
  OnlyNmos151 [.INC, .DEC] ∧
  ∀ (i : Instr) (st : State) (m : AddrMode) (r : Byte), i.mode = .mem m →
    (i.mnemonic = .INC ∧ r = BitVec.ofNat 8 ((st.peek (effAddr st m)).toNat + 1) ∨
      i.mnemonic = .DEC ∧ r = BitVec.ofInt 8 ((st.peek (effAddr st m)).toNat - 1)) →
    ∃ t, exec i st = .next t ∧
      t = { spent st m.operandBytes (rmwCycles m) with mem := t.mem, flags := withZN r st.flags } ∧
      (Memory.wf st.mem = true → ∀ a : Word, t.peek a = if a = effAddr st m then r else st.peek a)

/-- INX, INY, DEX and DEY (R195 to R198). -/
def Obligations.IncAndDecOfIndexRegisters : Prop :=
  (encode .inx = [0xE8#8] ∧ encode .iny = [0xC8#8] ∧ encode .dex = [0xCA#8] ∧ encode .dey = [0x88#8]) ∧
  OnlyNmos151 [.INX, .INY, .DEX, .DEY] ∧
  ∀ st : State,
    exec .inx st = .next { spent st 0 2 with
      x := BitVec.ofNat 8 (st.x.toNat + 1), flags := withZN (BitVec.ofNat 8 (st.x.toNat + 1)) st.flags } ∧
    exec .iny st = .next { spent st 0 2 with
      y := BitVec.ofNat 8 (st.y.toNat + 1), flags := withZN (BitVec.ofNat 8 (st.y.toNat + 1)) st.flags } ∧
    exec .dex st = .next { spent st 0 2 with
      x := BitVec.ofInt 8 (st.x.toNat - 1), flags := withZN (BitVec.ofInt 8 (st.x.toNat - 1)) st.flags } ∧
    exec .dey st = .next { spent st 0 2 with
      y := BitVec.ofInt 8 (st.y.toNat - 1), flags := withZN (BitVec.ofInt 8 (st.y.toNat - 1)) st.flags }

/-- ASL, LSR, ROL and ROR (R199 to R202; 40_engine.md R143), all twenty forms: each with Acc, Zp, ZpX, Abs, AbsX.
On A or on the byte at the effective address; the rotates take in the old carry; C is the bit moved out. -/
def Obligations.ShiftsAndRotates : Prop :=
  (∀ (b : Byte) (w : Word),
      encode (.aslZp b) = [0x06#8, b] ∧ encode .aslAcc = [0x0A#8] ∧ encode (.aslAbs w) = [0x0E#8, lo w, hi w] ∧
      encode (.aslZpX b) = [0x16#8, b] ∧ encode (.aslAbsX w) = [0x1E#8, lo w, hi w] ∧
      encode (.lsrZp b) = [0x46#8, b] ∧ encode .lsrAcc = [0x4A#8] ∧ encode (.lsrAbs w) = [0x4E#8, lo w, hi w] ∧
      encode (.lsrZpX b) = [0x56#8, b] ∧ encode (.lsrAbsX w) = [0x5E#8, lo w, hi w] ∧
      encode (.rolZp b) = [0x26#8, b] ∧ encode .rolAcc = [0x2A#8] ∧ encode (.rolAbs w) = [0x2E#8, lo w, hi w] ∧
      encode (.rolZpX b) = [0x36#8, b] ∧ encode (.rolAbsX w) = [0x3E#8, lo w, hi w] ∧
      encode (.rorZp b) = [0x66#8, b] ∧ encode .rorAcc = [0x6A#8] ∧ encode (.rorAbs w) = [0x6E#8, lo w, hi w] ∧
      encode (.rorZpX b) = [0x76#8, b] ∧ encode (.rorAbsX w) = [0x7E#8, lo w, hi w]) ∧
  OnlyNmos151 [.ASL, .LSR, .ROL, .ROR] ∧
  ∀ (i : Instr) (st : State), i.mnemonic ∈ shifts →
    (i.mode = .acc →
      let r := shifted i.mnemonic st.a st.flags.c
      exec i st = .next { spent st 0 2 with
        a := r, flags := { withZN r st.flags with c := shiftedOut i.mnemonic st.a } }) ∧
    (∀ m : AddrMode, i.mode = .mem m →
      let v := st.peek (effAddr st m)
      let r := shifted i.mnemonic v st.flags.c
      ∃ t, exec i st = .next t ∧
        t = { spent st m.operandBytes (rmwCycles m) with
              mem := t.mem, flags := { withZN r st.flags with c := shiftedOut i.mnemonic v } } ∧
        (Memory.wf st.mem = true → ∀ a : Word, t.peek a = if a = effAddr st m then r else st.peek a))

/-! # Control transfer -/

/-- JSR (43_control.md R220): the address of its last byte is pushed, high byte first, at `0x0100 + S` and below,
wrapping in page 1; PC is the target, fetched before the pushes; S goes down by two. -/
def Obligations.JsrPushesTheReturnAddress : Prop :=
  (∀ (w : Word),
      encode (.jsr w) = [0x20#8, lo w, hi w]) ∧
  (∀ w : Word, (Instr.jsr w).wf .nmos151 = true ∧ (Instr.jsr w).wf .doc4 = true) ∧
  ∀ (st : State) (w : Word), ∃ t, exec (.jsr w) st = .next t ∧
    t = { spent st 0 6 with pc := w, s := st.s - 2, mem := t.mem } ∧
    (Memory.wf st.mem = true → ∀ a : Word, t.peek a =
      if a = page1 st.s then hi (st.pc + 1)
      else if a = page1 (st.s - 1) then lo (st.pc + 1)
      else st.peek a)

/-- JMP (R221), both forms: jmpAbs, jmpInd. The pointer's second byte is read in the pointer's own page
(40_engine.md R135). -/
def Obligations.JmpSetsThePC : Prop :=
  (∀ (w : Word),
      encode (.jmpAbs w) = [0x4C#8, lo w, hi w] ∧ encode (.jmpInd w) = [0x6C#8, lo w, hi w]) ∧
  OnlyNmos151 [.JMP] ∧
  ∀ (st : State) (w : Word),
    exec (.jmpAbs w) st = .next { spent st 0 3 with pc := w } ∧
    exec (.jmpInd w) st = .next
      { spent st 0 5 with pc := word (st.peek (word (hi w) (lo w + 1))) (st.peek w) }

/-- RTS (R222): PC is the pulled address plus one, S goes up by two. -/
def Obligations.RtsPullsTheReturnAddress : Prop :=
  (encode .rts = [0x60#8]) ∧
  OnlyNmos151 [.RTS] ∧
  ∀ st : State, exec .rts st = .next
    { spent st 0 6 with
      s := st.s + 2
      pc := word (st.peek (page1 (st.s + 2))) (st.peek (page1 (st.s + 1))) + 1 }

/-- The eight branches (R223 to R231; 40_engine.md R136): bpl, bmi, bvc, bvs, bcc, bcs, bne, beq. Not taken 2
cycles; taken 3, or 4 when the target is on another page than the next instruction, which the offset is counted
from. -/
def Obligations.BranchesGoWhenTheirFlagSays : Prop :=
  (∀ (off : Byte),
      encode (.bpl off) = [0x10#8, off] ∧ encode (.bmi off) = [0x30#8, off] ∧
      encode (.bvc off) = [0x50#8, off] ∧ encode (.bvs off) = [0x70#8, off] ∧
      encode (.bcc off) = [0x90#8, off] ∧ encode (.bcs off) = [0xB0#8, off] ∧
      encode (.bne off) = [0xD0#8, off] ∧ encode (.beq off) = [0xF0#8, off]) ∧
  OnlyNmos151 [.BPL, .BMI, .BVC, .BVS, .BCC, .BCS, .BNE, .BEQ] ∧
  ∀ (i : Instr) (st : State) (off : Byte), i.mode = .rel off →
    let next := st.pc + 1
    let target := next + BitVec.ofInt 16 off.toInt
    exec i st = .next
      (if branchTaken i.mnemonic st.flags then
        { spent st 1 (if page target = page next then 3 else 4) with pc := target }
      else spent st 1 2)

/-- BRK (R232, 60_exceptions.md R306): the return address pc0 + 2 and the status byte with bits 5 and 4 set are
pushed, I is set, PC is read from 0xFFFE and 0xFFFF; no other flag changes. `st.pc` is pc0 + 1 here. -/
def Obligations.BrkTakesTheTrap : Prop :=
  (encode .brk = [0x00#8]) ∧
  OnlyNmos151 [.BRK] ∧
  ∀ st : State, ∃ t, exec .brk st = .next t ∧
    t = { spent st 0 7 with
          pc := t.pc, s := st.s - 3, flags := { st.flags with i := true }, mem := t.mem } ∧
    (Memory.wf st.mem = true →
      t.pc = word (st.peek 0xFFFF#16) (st.peek 0xFFFE#16) ∧
      ∀ a : Word, t.peek a =
        if a = page1 st.s then hi (st.pc + 1)
        else if a = page1 (st.s - 1) then lo (st.pc + 1)
        else if a = page1 (st.s - 2) then statusByte st.flags
        else st.peek a)

/-- RTI (R233, 60_exceptions.md R307): the status byte, then PC, are pulled; bits 5 and 4 are ignored, the stored B
is unchanged, the address is not incremented. -/
def Obligations.RtiRestoresStatusAndPC : Prop :=
  (encode .rti = [0x40#8]) ∧
  OnlyNmos151 [.RTI] ∧
  ∀ st : State, exec .rti st = .next
    { spent st 0 6 with
      s := st.s + 3
      flags := fromStatusByte (st.peek (page1 (st.s + 1))) st.flags
      pc := word (st.peek (page1 (st.s + 3))) (st.peek (page1 (st.s + 2))) }

/-- NOP (R234). -/
def Obligations.NopOnlyTakesTwoCycles : Prop :=
  (encode .nop = [0xEA#8]) ∧
  OnlyNmos151 [.NOP] ∧ ∀ st : State, exec .nop st = .next (spent st 0 2)

/-- A JSR and, from the state it leaves, an RTS (its opcode fetched anywhere) come back to the instruction after
the JSR with S as before (43_control.md R222, R235). `st.pc` is pc0 + 1 here. -/
def Obligations.RtsAfterJsrReturns : Prop :=
  ∀ (st : State) (w : Word), Memory.wf st.mem = true →
    ∃ t u, exec (.jsr w) st = .next t ∧ exec .rts t.fetched = .next u ∧
      u = { st with pc := st.pc + 2, mem := t.mem, cycles := st.cycles - 11 }

/-- A BRK and, from the state it leaves, an RTI come back to pc0 + 2 with S and every flag as before (43_control.md
R233, 60_exceptions.md R307). -/
def Obligations.RtiAfterBrkReturns : Prop :=
  ∀ st : State, Memory.wf st.mem = true →
    ∃ t u, exec .brk st = .next t ∧ exec .rti t.fetched = .next u ∧
      u = { st with pc := st.pc + 1, mem := t.mem, cycles := st.cycles - 12 }

/-! # Stack, transfers, flags -/

/-- PHA and PHP (44_stack_transfer_flags.md R250, R252): the byte goes to `0x0100 + S`, S goes down by one, wrapping in page 1. -/
def Obligations.PushesOfAccumulatorAndStatus : Prop :=
  (encode .pha = [0x48#8] ∧ encode .php = [0x08#8]) ∧
  OnlyNmos151 [.PHA, .PHP] ∧
  ∀ (st : State) (i : Instr) (v : Byte), (i = .pha ∧ v = st.a ∨ i = .php ∧ v = statusByte st.flags) →
    ∃ t, exec i st = .next t ∧
      t = { spent st 0 3 with s := st.s - 1, mem := t.mem } ∧
      (Memory.wf st.mem = true → ∀ a : Word, t.peek a = if a = page1 st.s then v else st.peek a)

/-- PLA and PLP (R251, R253): S goes up by one, the byte at `0x0100 + S` is A (with Z and N) or the flags. -/
def Obligations.PullsOfAccumulatorAndStatus : Prop :=
  (encode .pla = [0x68#8] ∧ encode .plp = [0x28#8]) ∧
  OnlyNmos151 [.PLA, .PLP] ∧
  ∀ st : State,
    exec .pla st = .next
      { spent st 0 4 with
        s := st.s + 1
        a := st.peek (page1 (st.s + 1))
        flags := withZN (st.peek (page1 (st.s + 1))) st.flags } ∧
    exec .plp st = .next
      { spent st 0 4 with
        s := st.s + 1
        flags := fromStatusByte (st.peek (page1 (st.s + 1))) st.flags }

/-- What PHA and PHP push, PLA and PLP pull back: A, and every flag but those a pull of A writes (R250 to R253). -/
def Obligations.PullsUndoPushes : Prop :=
  ∀ st : State, Memory.wf st.mem = true →
    (∃ t u, exec .pha st = .next t ∧ exec .pla t.fetched = .next u ∧
      u.a = st.a ∧ u.s = st.s ∧ u.flags = withZN st.a st.flags) ∧
    (∃ t u, exec .php st = .next t ∧ exec .plp t.fetched = .next u ∧
      u.flags = st.flags ∧ u.s = st.s ∧ u.a = st.a)

/-- The register transfers (R254 to R259): tax, tay, txa, tya, tsx, txs. TXS alone leaves Z and N. -/
def Obligations.TransfersMoveRegisters : Prop :=
  (encode .tax = [0xAA#8] ∧ encode .tay = [0xA8#8] ∧ encode .txa = [0x8A#8] ∧ encode .tya = [0x98#8] ∧
      encode .tsx = [0xBA#8] ∧ encode .txs = [0x9A#8]) ∧
  OnlyNmos151 [.TAX, .TAY, .TXA, .TYA, .TSX, .TXS] ∧
  ∀ st : State,
    exec .tax st = .next { spent st 0 2 with x := st.a, flags := withZN st.a st.flags } ∧
    exec .tay st = .next { spent st 0 2 with y := st.a, flags := withZN st.a st.flags } ∧
    exec .txa st = .next { spent st 0 2 with a := st.x, flags := withZN st.x st.flags } ∧
    exec .tya st = .next { spent st 0 2 with a := st.y, flags := withZN st.y st.flags } ∧
    exec .tsx st = .next { spent st 0 2 with x := st.s, flags := withZN st.s st.flags } ∧
    exec .txs st = .next { spent st 0 2 with s := st.x }

/-- The flag instructions (R260 to R266): clc, sec, cli, sei, cld, sed, clv. -/
def Obligations.FlagInstructionsWriteOneFlag : Prop :=
  (encode .clc = [0x18#8] ∧ encode .sec = [0x38#8] ∧ encode .cli = [0x58#8] ∧ encode .sei = [0x78#8] ∧
      encode .cld = [0xD8#8] ∧ encode .sed = [0xF8#8] ∧ encode .clv = [0xB8#8]) ∧
  OnlyNmos151 [.CLC, .SEC, .CLI, .SEI, .CLD, .SED, .CLV] ∧
  ∀ st : State,
    exec .clc st = .next { spent st 0 2 with flags := { st.flags with c := false } } ∧
    exec .sec st = .next { spent st 0 2 with flags := { st.flags with c := true } } ∧
    exec .cli st = .next { spent st 0 2 with flags := { st.flags with i := false } } ∧
    exec .sei st = .next { spent st 0 2 with flags := { st.flags with i := true } } ∧
    exec .cld st = .next { spent st 0 2 with flags := { st.flags with d := false } } ∧
    exec .sed st = .next { spent st 0 2 with flags := { st.flags with d := true } } ∧
    exec .clv st = .next { spent st 0 2 with flags := { st.flags with v := false } }

/-- The layout of the status byte (10_state.md R37): PackP by weights, and UnpackP, which ignores bits 5 and 4 and
keeps the stored B. -/
def Obligations.StatusByteLayout : Prop :=
  (∀ f : Flags, packP true f = statusByte f ∧ (packP false f).toNat + 16 = (statusByte f).toNat) ∧
  (∀ (p : Byte) (f : Flags), unpackP p f = fromStatusByte p f) ∧
  (∀ (b4 : Bool) (f g : Flags), unpackP (packP b4 f) g = { f with b := g.b })

/-- `SetZN` (40_engine.md R138) writes Z and N from a byte and nothing else, and is idempotent (R139). -/
def Obligations.LoadFlagsComeFromTheByte : Prop :=
  ∀ (r : Byte) (f : Flags), setZN r f = withZN r f ∧ setZN r (setZN r f) = setZN r f
end

