-- ==== Sys2Proof/Laws/Flags.lean ====
section
/-! SUPPORT. The small lemmas of the status byte and of the flag derivations. -/

namespace Sys2Proof.Machine

variable (f : Flags) (r g m a : Byte) (c b4 : Bool)

@[simp] theorem setZN_c : (setZN r f).c = f.c := rfl
@[simp] theorem setZN_i : (setZN r f).i = f.i := rfl
@[simp] theorem setZN_d : (setZN r f).d = f.d := rfl
@[simp] theorem setZN_b : (setZN r f).b = f.b := rfl
@[simp] theorem setZN_v : (setZN r f).v = f.v := rfl
@[simp] theorem setZN_z : (setZN r f).z = (r == 0x00#8) := rfl
@[simp] theorem setZN_n : (setZN r f).n = r.getLsbD 7 := rfl

/-- Unpacking leaves the stored B alone (10_state.md R37). -/
@[simp] theorem unpackP_b : (unpackP r f).b = f.b := rfl

/-- The adder writes C, Z, V and N only (42_alu.md R180). -/
theorem addBinary_frame :
    (addBinary a m c f).2.i = f.i ∧ (addBinary a m c f).2.d = f.d ∧ (addBinary a m c f).2.b = f.b :=
  ⟨rfl, rfl, rfl⟩

/-- So does the decimal adder (R181). -/
theorem addDecimal_frame :
    (addDecimal a m c f).2.i = f.i ∧ (addDecimal a m c f).2.d = f.d ∧ (addDecimal a m c f).2.b = f.b :=
  ⟨rfl, rfl, rfl⟩

/-- And the subtractor (R182). -/
theorem subFlags_frame :
    (subFlags a m c f).i = f.i ∧ (subFlags a m c f).d = f.d ∧ (subFlags a m c f).b = f.b :=
  ⟨rfl, rfl, rfl⟩

/-- Compare writes C, Z and N only (40_engine.md R142). -/
theorem compareFlags_frame :
    (compareFlags g m f).v = f.v ∧ (compareFlags g m f).i = f.i ∧ (compareFlags g m f).d = f.d ∧
      (compareFlags g m f).b = f.b :=
  ⟨rfl, rfl, rfl, rfl⟩

/-- Bit 7 of a byte is its sign. -/
theorem getLsbD_seven : r.getLsbD 7 = decide (128 ≤ r.toNat) := by
  revert r; decide

end Sys2Proof.Machine
end

