-- ==== Sys2Proof/Laws/Memory.lean ====
section
/-! SUPPORT. The laws of memory: a read after a write, and that a write keeps the canonical form. -/

namespace Sys2Proof.Machine

@[simp] theorem Memory.read_nil (a : Nat) : Memory.read [] a = 0x00#8 := rfl

theorem Memory.wfFrom_cons {lo b : Nat} {v : Byte} {m : Memory} :
    Memory.wfFrom lo ((b, v) :: m) = true ↔
      lo ≤ b ∧ b < 65536 ∧ v ≠ 0x00#8 ∧ Memory.wfFrom (b + 1) m = true := by
  simp [Memory.wfFrom, Memory.unlisted, and_assoc]

theorem Memory.wfFrom_mono {lo lo' : Nat} {m : Memory} (h : Memory.wfFrom lo m = true) (hl : lo' ≤ lo) :
    Memory.wfFrom lo' m = true := by
  cases m with
  | nil => rfl
  | cons e m =>
    obtain ⟨h1, h2⟩ := Memory.wfFrom_cons.1 h
    exact Memory.wfFrom_cons.2 ⟨hl.trans h1, h2⟩

theorem Memory.read_of_lt {lo a : Nat} {m : Memory} (h : Memory.wfFrom lo m = true) (ha : a < lo) :
    Memory.read m a = 0x00#8 := by
  induction m generalizing lo with
  | nil => rfl
  | cons e m ih =>
    obtain ⟨h1, -, -, h4⟩ := Memory.wfFrom_cons.1 h
    have hne : e.1 ≠ a := by omega
    simp [Memory.read, hne, ih h4 (by omega)]

theorem Memory.read_list {lo a c : Nat} {v : Byte} {m : Memory} (h : Memory.wfFrom lo m = true) (ha : a < lo) :
    Memory.read (Memory.list a v m) c = if c = a then v else Memory.read m c := by
  by_cases hv : v = 0x00#8
  · subst hv
    by_cases hc : c = a
    · subst hc; simp [Memory.list, Memory.unlisted, Memory.read_of_lt h ha]
    · simp [Memory.list, Memory.unlisted, hc]
  · by_cases hc : c = a
    · simp [Memory.list, Memory.unlisted, hv, Memory.read, hc]
    · simp [Memory.list, Memory.unlisted, hv, Memory.read, hc, Ne.symm hc]

/-- A read after a write: the byte written at its address, what was there before at every other. -/
theorem Memory.read_write {lo a c : Nat} {v : Byte} {m : Memory} (h : Memory.wfFrom lo m = true) :
    Memory.read (Memory.write m a v) c = if c = a then v else Memory.read m c := by
  induction m generalizing lo with
  | nil => exact Memory.read_list (lo := a + 1) rfl (by omega)
  | cons e m ih =>
    obtain ⟨b, w⟩ := e
    obtain ⟨h1, h2, h3, h4⟩ := Memory.wfFrom_cons.1 h
    rw [Memory.write]
    split
    · next hab => exact Memory.read_list (Memory.wfFrom_cons.2 ⟨le_rfl, h2, h3, h4⟩) hab
    · split
      · next hab =>
        subst hab
        rw [Memory.read_list h4 (by omega), Memory.read]
        by_cases hc : c = a
        · simp [hc]
        · simp [hc, Ne.symm hc]
      · next hlt hne =>
        rw [Memory.read, Memory.read, ih h4]
        by_cases hc : b = c
        · have : c ≠ a := fun e => hne (by omega)
          simp [hc, this]
        · simp [hc]

theorem Memory.wfFrom_list {lo a : Nat} {v : Byte} {m : Memory} (h : Memory.wfFrom (a + 1) m = true)
    (hlo : lo ≤ a) (ha : a < 65536) : Memory.wfFrom lo (Memory.list a v m) = true := by
  rw [Memory.list]
  split
  · exact Memory.wfFrom_mono h (by omega)
  · next hv => exact Memory.wfFrom_cons.2 ⟨hlo, ha, hv, h⟩

theorem Memory.wfFrom_write {lo a : Nat} {v : Byte} {m : Memory} (h : Memory.wfFrom lo m = true)
    (hlo : lo ≤ a) (ha : a < 65536) : Memory.wfFrom lo (Memory.write m a v) = true := by
  induction m generalizing lo with
  | nil => exact Memory.wfFrom_list rfl hlo ha
  | cons e m ih =>
    obtain ⟨b, w⟩ := e
    obtain ⟨h1, h2, h3, h4⟩ := Memory.wfFrom_cons.1 h
    rw [Memory.write]
    split
    · exact Memory.wfFrom_list (Memory.wfFrom_cons.2 ⟨by omega, h2, h3, h4⟩) hlo ha
    · split
      · next hab => subst hab; exact Memory.wfFrom_list h4 hlo ha
      · exact Memory.wfFrom_cons.2 ⟨h1, h2, h3, ih h4 (by omega)⟩

/-- Every write keeps the canonical form. -/
theorem Memory.wf_write {a : Word} {v : Byte} {m : Memory} (h : Memory.wf m = true) :
    Memory.wf (Memory.write m a.toNat v) = true :=
  Memory.wfFrom_write h (Nat.zero_le _) a.isLt

theorem Memory.wf_nil : Memory.wf [] = true := rfl

/-- A byte read after a byte was stored (20_memory.md R61). -/
theorem State.peek_poke {st : State} (h : Memory.wf st.mem = true) (a c : Word) (v : Byte) :
    (st.poke a v).peek c = if c = a then v else st.peek c := by
  have he : (c.toNat = a.toNat) = (c = a) := propext BitVec.toNat_inj
  simp only [State.peek, State.poke, Memory.read_write h, he]

end Sys2Proof.Machine
end

