-- ==== Sys2Proof/Laws/State.lean ====
section
/-! SUPPORT. One lemma per field per update of the state, so that no later proof unfolds a record update. -/

namespace Sys2Proof.Machine

variable (st : State) (a : Word) (v : Byte)

/-! ## `tick` -/

@[simp] theorem State.tick_cfg : (st.tick).cfg = st.cfg := rfl
@[simp] theorem State.tick_a : (st.tick).a = st.a := rfl
@[simp] theorem State.tick_x : (st.tick).x = st.x := rfl
@[simp] theorem State.tick_y : (st.tick).y = st.y := rfl
@[simp] theorem State.tick_s : (st.tick).s = st.s := rfl
@[simp] theorem State.tick_pc : (st.tick).pc = st.pc := rfl
@[simp] theorem State.tick_flags : (st.tick).flags = st.flags := rfl
@[simp] theorem State.tick_mem : (st.tick).mem = st.mem := rfl
@[simp] theorem State.tick_cycles : (st.tick).cycles = st.cycles - 1 := rfl
@[simp] theorem State.tick_resetDone : (st.tick).resetDone = st.resetDone := rfl

/-! ## `fetched` -/

@[simp] theorem State.fetched_cfg : (st.fetched).cfg = st.cfg := rfl
@[simp] theorem State.fetched_a : (st.fetched).a = st.a := rfl
@[simp] theorem State.fetched_x : (st.fetched).x = st.x := rfl
@[simp] theorem State.fetched_y : (st.fetched).y = st.y := rfl
@[simp] theorem State.fetched_s : (st.fetched).s = st.s := rfl
@[simp] theorem State.fetched_pc : (st.fetched).pc = st.pc + 1#16 := rfl
@[simp] theorem State.fetched_flags : (st.fetched).flags = st.flags := rfl
@[simp] theorem State.fetched_mem : (st.fetched).mem = st.mem := rfl
@[simp] theorem State.fetched_cycles : (st.fetched).cycles = st.cycles - 1 := rfl
@[simp] theorem State.fetched_resetDone : (st.fetched).resetDone = st.resetDone := rfl

/-! ## `fetchedWord` -/

@[simp] theorem State.fetchedWord_cfg : (st.fetchedWord).cfg = st.cfg := rfl
@[simp] theorem State.fetchedWord_a : (st.fetchedWord).a = st.a := rfl
@[simp] theorem State.fetchedWord_x : (st.fetchedWord).x = st.x := rfl
@[simp] theorem State.fetchedWord_y : (st.fetchedWord).y = st.y := rfl
@[simp] theorem State.fetchedWord_s : (st.fetchedWord).s = st.s := rfl
@[simp] theorem State.fetchedWord_pc : (st.fetchedWord).pc = st.pc + 1#16 + 1#16 := rfl
@[simp] theorem State.fetchedWord_flags : (st.fetchedWord).flags = st.flags := rfl
@[simp] theorem State.fetchedWord_mem : (st.fetchedWord).mem = st.mem := rfl
@[simp] theorem State.fetchedWord_cycles : (st.fetchedWord).cycles = st.cycles - 1 - 1 := rfl
@[simp] theorem State.fetchedWord_resetDone : (st.fetchedWord).resetDone = st.resetDone := rfl

/-! ## `poke` -/

@[simp] theorem State.poke_cfg : (st.poke a v).cfg = st.cfg := rfl
@[simp] theorem State.poke_a : (st.poke a v).a = st.a := rfl
@[simp] theorem State.poke_x : (st.poke a v).x = st.x := rfl
@[simp] theorem State.poke_y : (st.poke a v).y = st.y := rfl
@[simp] theorem State.poke_s : (st.poke a v).s = st.s := rfl
@[simp] theorem State.poke_pc : (st.poke a v).pc = st.pc := rfl
@[simp] theorem State.poke_flags : (st.poke a v).flags = st.flags := rfl
@[simp] theorem State.poke_mem : (st.poke a v).mem = Memory.write st.mem a.toNat v := rfl
@[simp] theorem State.poke_cycles : (st.poke a v).cycles = st.cycles := rfl
@[simp] theorem State.poke_resetDone : (st.poke a v).resetDone = st.resetDone := rfl

/-! ## Reading a byte depends on the memory alone -/

theorem State.peek_eq_read : st.peek a = Memory.read st.mem a.toNat := rfl

theorem State.peek_congr {st st' : State} (h : st'.mem = st.mem) (a : Word) : st'.peek a = st.peek a := by
  rw [State.peek, State.peek, h]

@[simp] theorem State.tick_peek : st.tick.peek a = st.peek a := rfl
@[simp] theorem State.fetched_peek : st.fetched.peek a = st.peek a := rfl
@[simp] theorem State.fetchedWord_peek : st.fetchedWord.peek a = st.peek a := rfl
@[simp] theorem State.peek_with_pc (p : Word) : ({ st with pc := p } : State).peek a = st.peek a := rfl
@[simp] theorem State.peek_with_s (w : Byte) : ({ st with s := w } : State).peek a = st.peek a := rfl
@[simp] theorem State.peek_with_a (w : Byte) : ({ st with a := w } : State).peek a = st.peek a := rfl
@[simp] theorem State.peek_with_flags (f : Flags) : ({ st with flags := f } : State).peek a = st.peek a := rfl
@[simp] theorem State.peek_with_cycles (c : Int) : ({ st with cycles := c } : State).peek a = st.peek a := rfl

end Sys2Proof.Machine
end

