-- ==== Sys2Proof/Laws/Ops.lean ====
section
/-! SUPPORT. What each shared operation over memory and the stack does, said once. -/

namespace Sys2Proof.Machine

variable (st : State) (a : Word) (v : Byte)

/-! ## Bits -/

theorem zext_toNat (b : Byte) : (zext b).toNat = b.toNat := by
  have := b.isLt
  simp [zext, BitVec.toNat_setWidth]; omega

theorem mkWord_toNat (hi lo : Byte) : (mkWord hi lo).toNat = 256 * hi.toNat + lo.toNat := by
  have := lo.isLt
  rw [mkWord, BitVec.toNat_append, ← Nat.shiftLeft_add_eq_or_of_lt this, Nat.shiftLeft_eq]
  omega

theorem hi8_toNat (w : Word) : (hi8 w).toNat = w.toNat / 256 := by
  have := w.isLt
  simp [hi8, BitVec.extractLsb'_toNat, Nat.shiftRight_eq_div_pow]; omega

theorem lo8_toNat (w : Word) : (lo8 w).toNat = w.toNat % 256 := by
  simp [lo8, BitVec.extractLsb'_toNat]

@[simp] theorem mkWord_hi8_lo8 (w : Word) : mkWord (hi8 w) (lo8 w) = w := by
  apply BitVec.eq_of_toNat_eq
  rw [mkWord_toNat, hi8_toNat, lo8_toNat]; omega

@[simp] theorem hi8_mkWord (hi lo : Byte) : hi8 (mkWord hi lo) = hi := by
  apply BitVec.eq_of_toNat_eq
  have := lo.isLt
  rw [hi8_toNat, mkWord_toNat]; omega

@[simp] theorem lo8_mkWord (hi lo : Byte) : lo8 (mkWord hi lo) = lo := by
  apply BitVec.eq_of_toNat_eq
  have := lo.isLt
  rw [lo8_toNat, mkWord_toNat]; omega

theorem stackAddr_toNat (s : Byte) : (stackAddr s).toNat = 256 + s.toNat := by
  have := s.isLt
  rw [stackAddr, BitVec.toNat_add, zext_toNat]
  simp; omega

theorem stackAddr_inj {s s' : Byte} : stackAddr s = stackAddr s' ↔ s = s' := by
  rw [← BitVec.toNat_inj, stackAddr_toNat, stackAddr_toNat, ← BitVec.toNat_inj]; omega

/-- Stack accesses never leave page 1 (20_memory.md R64). -/
theorem hi8_stackAddr (s : Byte) : hi8 (stackAddr s) = 0x01#8 := by
  apply BitVec.eq_of_toNat_eq
  have := s.isLt
  rw [hi8_toNat, stackAddr_toNat]; simp; omega

/-! ## The primitives, as equations between states -/

theorem writeByte_eq : writeByte a v st =
    { st with mem := Memory.write st.mem a.toNat v, cycles := st.cycles - 1 } := rfl

theorem push_eq : push v st =
    { st with mem := Memory.write st.mem (stackAddr st.s).toNat v, s := st.s - 1#8, cycles := st.cycles - 1 } := rfl

theorem pull_eq : pull st =
    (st.peek (stackAddr (st.s + 1#8)), { st with s := st.s + 1#8, cycles := st.cycles - 1 }) := rfl

theorem readByte_eq : readByte a st = (st.peek a, { st with cycles := st.cycles - 1 }) := rfl

theorem readWord_eq : readWord a st =
    (mkWord (st.peek (a + 1#16)) (st.peek a), { st with cycles := st.cycles - 1 - 1 }) := rfl

/-- What a push leaves in memory: the byte at the old stack top, all else as before. -/
theorem push_peek (h : Memory.wf st.mem = true) (c : Word) :
    (push v st).peek c = if c = stackAddr st.s then v else st.peek c :=
  State.peek_poke h _ _ _

theorem push_wf (h : Memory.wf st.mem = true) : Memory.wf (push v st).mem = true :=
  Memory.wf_write h

theorem writeByte_wf (h : Memory.wf st.mem = true) : Memory.wf (writeByte a v st).mem = true :=
  Memory.wf_write h

theorem writeByte_peek (h : Memory.wf st.mem = true) (c : Word) :
    (writeByte a v st).peek c = if c = a then v else st.peek c :=
  State.peek_poke h _ _ _

/-- The memory with the frame of BRK pushed (43_control.md R232). -/
def breakFrame : Memory :=
  (push (packP true st.flags) (push (lo8 st.pc) (push (hi8 st.pc) st))).mem

theorem breakFrame_wf (h : Memory.wf st.mem = true) : Memory.wf (breakFrame st) = true :=
  push_wf _ _ (push_wf _ _ (push_wf _ _ h))

/-- Everything BRK's trap entry does (60_exceptions.md R306); PC is read from the vector after the pushes. -/
theorem takeBreak_eq : takeBreak st =
    { st with
      mem := breakFrame st
      s := st.s - 1#8 - 1#8 - 1#8
      flags := { st.flags with i := true }
      pc := mkWord (Memory.read (breakFrame st) (brkVector + 1#16).toNat)
        (Memory.read (breakFrame st) brkVector.toNat)
      cycles := st.cycles - 1 - 1 - 1 - 1 - 1 } := by
  simp only [takeBreak, breakFrame, push_eq, readWord_eq, State.peek]

/-- The bytes of the frame, each at its stack address, and no other byte changed. -/
theorem breakFrame_read (h : Memory.wf st.mem = true) (c : Word) : Memory.read (breakFrame st) c.toNat =
    if c = stackAddr (st.s - 1#8 - 1#8) then packP true st.flags
    else if c = stackAddr (st.s - 1#8) then lo8 st.pc
    else if c = stackAddr st.s then hi8 st.pc
    else st.peek c := by
  have h1 := push_wf st (hi8 st.pc) h
  have h2 := push_wf (push (hi8 st.pc) st) (lo8 st.pc) h1
  rw [breakFrame, ← State.peek_eq_read, push_peek _ _ h2, push_peek _ _ h1, push_peek _ _ h]
  rfl

/-- Everything RTI's trap return does (60_exceptions.md R307). -/
theorem returnFromBreak_eq : returnFromBreak st =
    { st with
      s := st.s + 1#8 + 1#8 + 1#8
      flags := unpackP (st.peek (stackAddr (st.s + 1#8))) st.flags
      pc := mkWord (st.peek (stackAddr (st.s + 1#8 + 1#8 + 1#8))) (st.peek (stackAddr (st.s + 1#8 + 1#8)))
      cycles := st.cycles - 1 - 1 - 1 } := by
  simp only [returnFromBreak, pull_eq, State.peek]

end Sys2Proof.Machine
end

