-- ==== Sys2Proof/Laws/Operands.lean ====
section
/-! SUPPORT. What the address-mode resolver and the operand helpers do, said once each. -/

namespace Sys2Proof.Machine

/-- The cycle of an indexed sum: always but on a read that stays in the base's page (40_engine.md R131). -/
def indexCost (base ea : Word) (k : Access) : Int := if k ≠ .read ∨ hi8 base ≠ hi8 ea then 1 else 0

/-- The word a zero-page pointer holds. -/
def pointerAt (p : Byte) (st : State) : Word := mkWord (st.peek (zext (p + 1#8))) (st.peek (zext p))

/-- The cycles the mode's own steps bill (R127 to R134), the opcode fetch and the access not counted. -/
def resolveCost (m : AddrMode) (k : Access) (st : State) : Int :=
  match m with
  | .zp _ => 1
  | .zpX _ => 2
  | .zpY _ => 2
  | .abs _ => 2
  | .absX w => 2 + indexCost w (w + zext st.x) k
  | .absY w => 2 + indexCost w (w + zext st.y) k
  | .indX _ => 4
  | .indY b => 3 + indexCost (pointerAt b st) (pointerAt b st + zext st.y) k

theorem indexed_snd (base : Word) (i : Byte) (k : Access) (st : State) :
    (indexed base i k st).2 = { st with cycles := st.cycles - indexCost base (base + zext i) k } := by
  simp only [indexed, indexCost]
  split
  · rfl
  · simp

theorem zpPointer_eq (p : Byte) (st : State) :
    zpPointer p st = (pointerAt p st, { st with cycles := st.cycles - 1 - 1 }) := rfl

/-- Resolving a mode changes PC and the counter, and nothing else. -/
theorem resolve_snd (m : AddrMode) (k : Access) (st : State) :
    (resolve m k st).2 =
      { st with pc := st.pc + BitVec.ofNat 16 m.operandBytes, cycles := st.cycles - resolveCost m k st } := by
  have h2 : ∀ p : Word, p + 1#16 + 1#16 = p + 2#16 := fun p => by rw [BitVec.add_assoc]; rfl
  have c2 : ∀ c : Int, c - 1 - 1 = c - 2 := fun c => by omega
  cases m with
  | zp b => rfl
  | zpX b => simp [resolve, State.fetched, State.tick, resolveCost, AddrMode.operandBytes, c2]
  | zpY b => simp [resolve, State.fetched, State.tick, resolveCost, AddrMode.operandBytes, c2]
  | abs w => simp [resolve, State.fetchedWord, State.fetched, resolveCost, AddrMode.operandBytes, h2, c2]
  | absX w =>
    simp [resolve, indexed_snd, State.fetchedWord, State.fetched, resolveCost, AddrMode.operandBytes, h2]; omega
  | absY w =>
    simp [resolve, indexed_snd, State.fetchedWord, State.fetched, resolveCost, AddrMode.operandBytes, h2]; omega
  | indX b =>
    simp [resolve, zpPointer_eq, State.fetched, State.tick, resolveCost, AddrMode.operandBytes]; omega
  | indY b =>
    have hp : pointerAt b st.fetched = pointerAt b st := rfl
    simp only [resolve, zpPointer_eq, indexed_snd, hp, resolveCost, AddrMode.operandBytes, State.mk.injEq,
      State.fetched_cfg, State.fetched_a, State.fetched_x, State.fetched_y, State.fetched_s, State.fetched_pc,
      State.fetched_flags, State.fetched_mem, State.fetched_cycles, State.fetched_resetDone, true_and, and_true]
    omega

/-- The effective address does not depend on the access kind. -/
theorem resolve_fst (m : AddrMode) (k : Access) (st : State) : (resolve m k st).1 = (resolve m .read st).1 := by
  cases m <;> rfl

/-- Resolving leaves every byte of memory as it reads. -/
@[simp] theorem resolve_snd_peek (m : AddrMode) (k : Access) (st : State) (c : Word) :
    (resolve m k st).2.peek c = st.peek c := by rw [resolve_snd]; rfl

@[simp] theorem resolve_snd_mem (m : AddrMode) (k : Access) (st : State) : (resolve m k st).2.mem = st.mem := by
  rw [resolve_snd]

/-- LoadOperand of a mode with an effective address (R137). -/
theorem loadMem_eq (m : AddrMode) (st : State) : loadMem m st =
    (st.peek (resolve m .read st).1,
      { st with
        pc := st.pc + BitVec.ofNat 16 m.operandBytes
        cycles := st.cycles - resolveCost m .read st - 1 }) := by
  rw [loadMem, readByte_eq, resolve_snd_peek, resolve_snd]

theorem loadImm_eq (v : Byte) (st : State) :
    loadImm v st = (v, { st with pc := st.pc + 1#16, cycles := st.cycles - 1 }) := rfl

/-- StoreOperand (R137). -/
theorem storeOperand_eq (m : AddrMode) (v : Byte) (st : State) : storeOperand m v st =
    { st with
      mem := Memory.write st.mem (resolve m .read st).1.toNat v
      pc := st.pc + BitVec.ofNat 16 m.operandBytes
      cycles := st.cycles - resolveCost m .write st - 1 } := by
  rw [storeOperand, writeByte_eq, resolve_fst, resolve_snd]

/-- Modify of a memory byte (R137). -/
theorem modifyMem_eq (m : AddrMode) (f : Byte → Flags → Byte × Flags) (st : State) : modifyMem m f st =
    { st with
      mem := Memory.write st.mem (resolve m .read st).1.toNat (f (st.peek (resolve m .read st).1) st.flags).1
      flags := (f (st.peek (resolve m .read st).1) st.flags).2
      pc := st.pc + BitVec.ofNat 16 m.operandBytes
      cycles := st.cycles - resolveCost m .rmw st - 3 } := by
  have c3 : ∀ c : Int, c - 1 - 1 - 1 = c - 3 := fun c => by omega
  simp only [modifyMem, readByte_eq, writeByte_eq, State.tick, resolve_fst m .rmw, resolve_snd_peek]
  simp only [resolve_snd, c3]

/-- Modify of the accumulator (R125, R137). -/
theorem modifyAcc_eq (f : Byte → Flags → Byte × Flags) (st : State) : modifyAcc f st =
    { st with a := (f st.a st.flags).1, flags := (f st.a st.flags).2, cycles := st.cycles - 1 } := rfl

/-- A branch writes PC and the counter only (R136). -/
theorem branchIf_eq (cond : Bool) (off : Byte) (st : State) :
    branchIf cond off st = { st with pc := (branchIf cond off st).pc, cycles := (branchIf cond off st).cycles } := by
  unfold branchIf
  cases cond
  · rfl
  · simp only [if_true]
    split <;> rfl

end Sys2Proof.Machine
end

