-- ==== Sys2Proof/Laws/ByMnemonic.lean ====
section
/-! SUPPORT. What `exec` runs for each mnemonic, all its addressing modes in one equation, so that a proof about an
instruction splits on nothing but its kind of operand. -/

namespace Sys2Proof.Machine

/-- LoadOperand over the modes that have a value (40_engine.md R137). -/
def readOf (m : Mode) (st : State) : Byte × State :=
  match m with
  | .imm v => loadImm v st
  | .mem m => loadMem m st
  | _ => (0x00#8, st)

/-- StoreOperand over the modes that have an address (R137). -/
def storeOf (m : Mode) (v : Byte) (st : State) : State :=
  match m with
  | .mem m => storeOperand m v st
  | _ => st

/-- Modify over the accumulator and the modes that have an address (R137). -/
def modifyOf (m : Mode) (f : Byte → Flags → Byte × Flags) (st : State) : State :=
  match m with
  | .acc => modifyAcc f st
  | .mem m => modifyMem m f st
  | _ => st

/-- The mode is immediate or has an effective address. -/
def readable (m : Mode) : Prop := (∃ v, m = .imm v) ∨ ∃ a, m = .mem a

/-- The mode has an effective address. -/
def addressed (m : Mode) : Prop := ∃ a, m = .mem a

/-! ## Instructions that read an operand -/

theorem exec_LDA {i : Instr} (st : State) (h : i.mnemonic = .LDA) : exec i st = .next (loadA (readOf i.mode st)) := by
  cases i <;> cases h <;> rfl

theorem exec_LDX {i : Instr} (st : State) (h : i.mnemonic = .LDX) : exec i st = .next (loadX (readOf i.mode st)) := by
  cases i <;> cases h <;> rfl

theorem exec_LDY {i : Instr} (st : State) (h : i.mnemonic = .LDY) : exec i st = .next (loadY (readOf i.mode st)) := by
  cases i <;> cases h <;> rfl

theorem exec_ADC {i : Instr} (st : State) (h : i.mnemonic = .ADC) : exec i st = addWithCarry (readOf i.mode st) := by
  cases i <;> cases h <;> rfl

theorem exec_SBC {i : Instr} (st : State) (h : i.mnemonic = .SBC) : exec i st = subWithBorrow (readOf i.mode st) := by
  cases i <;> cases h <;> rfl

theorem exec_AND {i : Instr} (st : State) (h : i.mnemonic = .AND) : exec i st = .next (logicA (· &&& ·) (readOf i.mode st)) := by
  cases i <;> cases h <;> rfl

theorem exec_ORA {i : Instr} (st : State) (h : i.mnemonic = .ORA) : exec i st = .next (logicA (· ||| ·) (readOf i.mode st)) := by
  cases i <;> cases h <;> rfl

theorem exec_EOR {i : Instr} (st : State) (h : i.mnemonic = .EOR) : exec i st = .next (logicA (· ^^^ ·) (readOf i.mode st)) := by
  cases i <;> cases h <;> rfl

theorem exec_CMP {i : Instr} (st : State) (h : i.mnemonic = .CMP) : exec i st = .next (compareWith st.a (readOf i.mode st)) := by
  cases i <;> cases h <;> rfl

theorem exec_CPX {i : Instr} (st : State) (h : i.mnemonic = .CPX) : exec i st = .next (compareWith st.x (readOf i.mode st)) := by
  cases i <;> cases h <;> rfl

theorem exec_CPY {i : Instr} (st : State) (h : i.mnemonic = .CPY) : exec i st = .next (compareWith st.y (readOf i.mode st)) := by
  cases i <;> cases h <;> rfl

theorem exec_BIT {i : Instr} (st : State) (h : i.mnemonic = .BIT) : exec i st = .next (bitTest (readOf i.mode st)) := by
  cases i <;> cases h <;> rfl

/-! ## Stores -/

theorem exec_STA {i : Instr} (st : State) (h : i.mnemonic = .STA) : exec i st = .next (storeOf i.mode st.a st) := by
  cases i <;> cases h <;> rfl

theorem exec_STX {i : Instr} (st : State) (h : i.mnemonic = .STX) : exec i st = .next (storeOf i.mode st.x st) := by
  cases i <;> cases h <;> rfl

theorem exec_STY {i : Instr} (st : State) (h : i.mnemonic = .STY) : exec i st = .next (storeOf i.mode st.y st) := by
  cases i <;> cases h <;> rfl

/-! ## Read-modify-write -/

theorem exec_INC {i : Instr} (st : State) (h : i.mnemonic = .INC) : exec i st = .next (modifyOf i.mode incByte st) := by
  cases i <;> cases h <;> rfl

theorem exec_DEC {i : Instr} (st : State) (h : i.mnemonic = .DEC) : exec i st = .next (modifyOf i.mode decByte st) := by
  cases i <;> cases h <;> rfl

theorem exec_ASL {i : Instr} (st : State) (h : i.mnemonic = .ASL) : exec i st = .next (modifyOf i.mode aslByte st) := by
  cases i <;> cases h <;> rfl

theorem exec_LSR {i : Instr} (st : State) (h : i.mnemonic = .LSR) : exec i st = .next (modifyOf i.mode lsrByte st) := by
  cases i <;> cases h <;> rfl

theorem exec_ROL {i : Instr} (st : State) (h : i.mnemonic = .ROL) : exec i st = .next (modifyOf i.mode rolByte st) := by
  cases i <;> cases h <;> rfl

theorem exec_ROR {i : Instr} (st : State) (h : i.mnemonic = .ROR) : exec i st = .next (modifyOf i.mode rorByte st) := by
  cases i <;> cases h <;> rfl

/-! ## Which modes they have -/

/-- The instructions that read an operand. -/
def readsOperand : Mnemonic → Bool
  | .LDA | .LDX | .LDY | .ADC | .SBC | .AND | .ORA | .EOR | .CMP | .CPX | .CPY | .BIT => true
  | _ => false

/-- The stores, INC and DEC. -/
def writesAddressed : Mnemonic → Bool
  | .STA | .STX | .STY | .INC | .DEC => true
  | _ => false

/-- The shifts and rotates. -/
def isShift : Mnemonic → Bool
  | .ASL | .LSR | .ROL | .ROR => true
  | _ => false

/-- An instruction that reads an operand (41_load_store.md, 42_alu.md) has an immediate or an address. -/
theorem mode_of_reader {i : Instr} (h : readsOperand i.mnemonic = true) : readable i.mode := by
  cases i <;> cases h <;> first | exact Or.inl ⟨_, rfl⟩ | exact Or.inr ⟨_, rfl⟩

/-- A store, INC and DEC have an address. -/
theorem mode_of_writer {i : Instr} (h : writesAddressed i.mnemonic = true) : addressed i.mode := by
  cases i <;> cases h <;> exact ⟨_, rfl⟩

/-- The shifts and rotates have the accumulator or an address. -/
theorem mode_of_shift {i : Instr} (h : isShift i.mnemonic = true) : i.mode = .acc ∨ addressed i.mode := by
  cases i <;> cases h <;> first | exact Or.inl rfl | exact Or.inr ⟨_, rfl⟩

end Sys2Proof.Machine
end

