-- ==== Sys2Proof/Laws/Meanings.lean ====
section
/-! SUPPORT. What the operations that several meanings share do, said once each. -/

namespace Sys2Proof.Machine

/-! ## Add and subtract -/

/-- ADC goes on writing A and the flags C, Z, V and N only (42_alu.md R180), or is refused with D = 1 under
DECIMAL_MODE = refuse. -/
theorem addWithCarry_cases (r : Byte × State) :
    (∃ (a : Byte) (fl : Flags), addWithCarry r = .next { r.2 with a := a, flags := fl } ∧
      fl.i = r.2.flags.i ∧ fl.d = r.2.flags.d ∧ fl.b = r.2.flags.b) ∨
    (r.2.flags.d = true ∧ r.2.cfg.decimalMode = .refuse ∧ addWithCarry r = .refused .decimalRefused) := by
  unfold addWithCarry
  dsimp only
  split
  · next hd =>
    split
    · next hm => exact .inr ⟨hd, hm, rfl⟩
    · exact .inl ⟨_, _, rfl, rfl, rfl, rfl⟩
  · exact .inl ⟨_, _, rfl, rfl, rfl, rfl⟩

/-- SBC likewise (42_alu.md R182). -/
theorem subWithBorrow_cases (r : Byte × State) :
    (∃ (a : Byte) (fl : Flags), subWithBorrow r = .next { r.2 with a := a, flags := fl } ∧
      fl.i = r.2.flags.i ∧ fl.d = r.2.flags.d ∧ fl.b = r.2.flags.b) ∨
    (r.2.flags.d = true ∧ r.2.cfg.decimalMode = .refuse ∧ subWithBorrow r = .refused .decimalRefused) := by
  unfold subWithBorrow
  dsimp only
  split
  · next hd =>
    split
    · next hm => exact .inr ⟨hd, hm, rfl⟩
    · exact .inl ⟨_, _, rfl, rfl, rfl, rfl⟩
  · exact .inl ⟨_, _, rfl, rfl, rfl, rfl⟩

/-! ## Subroutines and pulls -/

/-- Everything JSR does (43_control.md R220): two pushes onto the memory of the state it starts in. -/
theorem jumpSubroutine_eq (w : Word) (st : State) : jumpSubroutine w st =
    { st with
      pc := w
      s := st.s - 1#8 - 1#8
      mem := (push (lo8 (st.pc + 1#16)) (push (hi8 (st.pc + 1#16)) st)).mem
      cycles := st.cycles - 1 - 1 - 1 - 1 - 1 } := by
  have h : st.pc + 1#16 + 1#16 - 1#16 = st.pc + 1#16 := by simp
  simp only [jumpSubroutine, push_eq, State.fetchedWord, State.fetched, State.tick, h]

/-- Everything RTS does (R222). -/
theorem returnSubroutine_eq (st : State) : returnSubroutine st =
    { st with
      s := st.s + 1#8 + 1#8
      pc := mkWord (st.peek (stackAddr (st.s + 1#8 + 1#8))) (st.peek (stackAddr (st.s + 1#8))) + 1#16
      cycles := st.cycles - 1 - 1 - 1 - 1 - 1 } := rfl

/-- Everything the indirect target of JMP takes (40_engine.md R135). -/
theorem indirectTarget_eq (p : Word) (st : State) : indirectTarget p st =
    (mkWord (st.peek (mkWord (hi8 p) (lo8 p + 1#8))) (st.peek p),
      { st with pc := st.pc + 1#16 + 1#16, cycles := st.cycles - 1 - 1 - 1 - 1 }) := rfl

/-- Everything the pull of A does (44_stack_transfer_flags.md R251). -/
theorem pullA_eq (st : State) : pullA st =
    { st with
      s := st.s + 1#8
      a := st.peek (stackAddr (st.s + 1#8))
      flags := setZN (st.peek (stackAddr (st.s + 1#8))) st.flags
      cycles := st.cycles - 1 } := rfl

/-- Everything the pull of the status byte does (R253). -/
theorem pullP_eq (st : State) : pullP st =
    { st with
      s := st.s + 1#8
      flags := unpackP (st.peek (stackAddr (st.s + 1#8))) st.flags
      cycles := st.cycles - 1 } := rfl

end Sys2Proof.Machine
end

