-- ==== Sys2Proof/Laws/PerInstr.lean ====
section
/-! SUPPORT. What holds of every instruction as syntax, one lemma per constructor. -/

namespace Sys2Proof.Laws.Length

/-- The encoding is as long as the instruction's format says (30_encoding.md R80, R81): one opcode byte and
the mode's operand bytes, at most three bytes. -/
def Statement (i : Instr) : Prop := (encode i).length = i.length ∧ i.length ≤ maxLength

theorem ldaIndX (b : Byte) : Statement (.ldaIndX b) := ⟨rfl, Nat.le_of_ble_eq_true rfl⟩
theorem ldaZp (b : Byte) : Statement (.ldaZp b) := ⟨rfl, Nat.le_of_ble_eq_true rfl⟩
theorem ldaImm (v : Byte) : Statement (.ldaImm v) := ⟨rfl, Nat.le_of_ble_eq_true rfl⟩
theorem ldaAbs (w : Word) : Statement (.ldaAbs w) := ⟨rfl, Nat.le_of_ble_eq_true rfl⟩
theorem ldaIndY (b : Byte) : Statement (.ldaIndY b) := ⟨rfl, Nat.le_of_ble_eq_true rfl⟩
theorem ldaZpX (b : Byte) : Statement (.ldaZpX b) := ⟨rfl, Nat.le_of_ble_eq_true rfl⟩
theorem ldaAbsY (w : Word) : Statement (.ldaAbsY w) := ⟨rfl, Nat.le_of_ble_eq_true rfl⟩
theorem ldaAbsX (w : Word) : Statement (.ldaAbsX w) := ⟨rfl, Nat.le_of_ble_eq_true rfl⟩
theorem ldxImm (v : Byte) : Statement (.ldxImm v) := ⟨rfl, Nat.le_of_ble_eq_true rfl⟩
theorem ldxZp (b : Byte) : Statement (.ldxZp b) := ⟨rfl, Nat.le_of_ble_eq_true rfl⟩
theorem ldxAbs (w : Word) : Statement (.ldxAbs w) := ⟨rfl, Nat.le_of_ble_eq_true rfl⟩
theorem ldxZpY (b : Byte) : Statement (.ldxZpY b) := ⟨rfl, Nat.le_of_ble_eq_true rfl⟩
theorem ldxAbsY (w : Word) : Statement (.ldxAbsY w) := ⟨rfl, Nat.le_of_ble_eq_true rfl⟩
theorem ldyImm (v : Byte) : Statement (.ldyImm v) := ⟨rfl, Nat.le_of_ble_eq_true rfl⟩
theorem ldyZp (b : Byte) : Statement (.ldyZp b) := ⟨rfl, Nat.le_of_ble_eq_true rfl⟩
theorem ldyAbs (w : Word) : Statement (.ldyAbs w) := ⟨rfl, Nat.le_of_ble_eq_true rfl⟩
theorem ldyZpX (b : Byte) : Statement (.ldyZpX b) := ⟨rfl, Nat.le_of_ble_eq_true rfl⟩
theorem ldyAbsX (w : Word) : Statement (.ldyAbsX w) := ⟨rfl, Nat.le_of_ble_eq_true rfl⟩
theorem staIndX (b : Byte) : Statement (.staIndX b) := ⟨rfl, Nat.le_of_ble_eq_true rfl⟩
theorem staZp (b : Byte) : Statement (.staZp b) := ⟨rfl, Nat.le_of_ble_eq_true rfl⟩
theorem staAbs (w : Word) : Statement (.staAbs w) := ⟨rfl, Nat.le_of_ble_eq_true rfl⟩
theorem staIndY (b : Byte) : Statement (.staIndY b) := ⟨rfl, Nat.le_of_ble_eq_true rfl⟩
theorem staZpX (b : Byte) : Statement (.staZpX b) := ⟨rfl, Nat.le_of_ble_eq_true rfl⟩
theorem staAbsY (w : Word) : Statement (.staAbsY w) := ⟨rfl, Nat.le_of_ble_eq_true rfl⟩
theorem staAbsX (w : Word) : Statement (.staAbsX w) := ⟨rfl, Nat.le_of_ble_eq_true rfl⟩
theorem stxZp (b : Byte) : Statement (.stxZp b) := ⟨rfl, Nat.le_of_ble_eq_true rfl⟩
theorem stxAbs (w : Word) : Statement (.stxAbs w) := ⟨rfl, Nat.le_of_ble_eq_true rfl⟩
theorem stxZpY (b : Byte) : Statement (.stxZpY b) := ⟨rfl, Nat.le_of_ble_eq_true rfl⟩
theorem styZp (b : Byte) : Statement (.styZp b) := ⟨rfl, Nat.le_of_ble_eq_true rfl⟩
theorem styAbs (w : Word) : Statement (.styAbs w) := ⟨rfl, Nat.le_of_ble_eq_true rfl⟩
theorem styZpX (b : Byte) : Statement (.styZpX b) := ⟨rfl, Nat.le_of_ble_eq_true rfl⟩
theorem adcIndX (b : Byte) : Statement (.adcIndX b) := ⟨rfl, Nat.le_of_ble_eq_true rfl⟩
theorem adcZp (b : Byte) : Statement (.adcZp b) := ⟨rfl, Nat.le_of_ble_eq_true rfl⟩
theorem adcImm (v : Byte) : Statement (.adcImm v) := ⟨rfl, Nat.le_of_ble_eq_true rfl⟩
theorem adcAbs (w : Word) : Statement (.adcAbs w) := ⟨rfl, Nat.le_of_ble_eq_true rfl⟩
theorem adcIndY (b : Byte) : Statement (.adcIndY b) := ⟨rfl, Nat.le_of_ble_eq_true rfl⟩
theorem adcZpX (b : Byte) : Statement (.adcZpX b) := ⟨rfl, Nat.le_of_ble_eq_true rfl⟩
theorem adcAbsY (w : Word) : Statement (.adcAbsY w) := ⟨rfl, Nat.le_of_ble_eq_true rfl⟩
theorem adcAbsX (w : Word) : Statement (.adcAbsX w) := ⟨rfl, Nat.le_of_ble_eq_true rfl⟩
theorem sbcIndX (b : Byte) : Statement (.sbcIndX b) := ⟨rfl, Nat.le_of_ble_eq_true rfl⟩
theorem sbcZp (b : Byte) : Statement (.sbcZp b) := ⟨rfl, Nat.le_of_ble_eq_true rfl⟩
theorem sbcImm (v : Byte) : Statement (.sbcImm v) := ⟨rfl, Nat.le_of_ble_eq_true rfl⟩
theorem sbcAbs (w : Word) : Statement (.sbcAbs w) := ⟨rfl, Nat.le_of_ble_eq_true rfl⟩
theorem sbcIndY (b : Byte) : Statement (.sbcIndY b) := ⟨rfl, Nat.le_of_ble_eq_true rfl⟩
theorem sbcZpX (b : Byte) : Statement (.sbcZpX b) := ⟨rfl, Nat.le_of_ble_eq_true rfl⟩
theorem sbcAbsY (w : Word) : Statement (.sbcAbsY w) := ⟨rfl, Nat.le_of_ble_eq_true rfl⟩
theorem sbcAbsX (w : Word) : Statement (.sbcAbsX w) := ⟨rfl, Nat.le_of_ble_eq_true rfl⟩
theorem andIndX (b : Byte) : Statement (.andIndX b) := ⟨rfl, Nat.le_of_ble_eq_true rfl⟩
theorem andZp (b : Byte) : Statement (.andZp b) := ⟨rfl, Nat.le_of_ble_eq_true rfl⟩
theorem andImm (v : Byte) : Statement (.andImm v) := ⟨rfl, Nat.le_of_ble_eq_true rfl⟩
theorem andAbs (w : Word) : Statement (.andAbs w) := ⟨rfl, Nat.le_of_ble_eq_true rfl⟩
theorem andIndY (b : Byte) : Statement (.andIndY b) := ⟨rfl, Nat.le_of_ble_eq_true rfl⟩
theorem andZpX (b : Byte) : Statement (.andZpX b) := ⟨rfl, Nat.le_of_ble_eq_true rfl⟩
theorem andAbsY (w : Word) : Statement (.andAbsY w) := ⟨rfl, Nat.le_of_ble_eq_true rfl⟩
theorem andAbsX (w : Word) : Statement (.andAbsX w) := ⟨rfl, Nat.le_of_ble_eq_true rfl⟩
theorem oraIndX (b : Byte) : Statement (.oraIndX b) := ⟨rfl, Nat.le_of_ble_eq_true rfl⟩
theorem oraZp (b : Byte) : Statement (.oraZp b) := ⟨rfl, Nat.le_of_ble_eq_true rfl⟩
theorem oraImm (v : Byte) : Statement (.oraImm v) := ⟨rfl, Nat.le_of_ble_eq_true rfl⟩
theorem oraAbs (w : Word) : Statement (.oraAbs w) := ⟨rfl, Nat.le_of_ble_eq_true rfl⟩
theorem oraIndY (b : Byte) : Statement (.oraIndY b) := ⟨rfl, Nat.le_of_ble_eq_true rfl⟩
theorem oraZpX (b : Byte) : Statement (.oraZpX b) := ⟨rfl, Nat.le_of_ble_eq_true rfl⟩
theorem oraAbsY (w : Word) : Statement (.oraAbsY w) := ⟨rfl, Nat.le_of_ble_eq_true rfl⟩
theorem oraAbsX (w : Word) : Statement (.oraAbsX w) := ⟨rfl, Nat.le_of_ble_eq_true rfl⟩
theorem eorIndX (b : Byte) : Statement (.eorIndX b) := ⟨rfl, Nat.le_of_ble_eq_true rfl⟩
theorem eorZp (b : Byte) : Statement (.eorZp b) := ⟨rfl, Nat.le_of_ble_eq_true rfl⟩
theorem eorImm (v : Byte) : Statement (.eorImm v) := ⟨rfl, Nat.le_of_ble_eq_true rfl⟩
theorem eorAbs (w : Word) : Statement (.eorAbs w) := ⟨rfl, Nat.le_of_ble_eq_true rfl⟩
theorem eorIndY (b : Byte) : Statement (.eorIndY b) := ⟨rfl, Nat.le_of_ble_eq_true rfl⟩
theorem eorZpX (b : Byte) : Statement (.eorZpX b) := ⟨rfl, Nat.le_of_ble_eq_true rfl⟩
theorem eorAbsY (w : Word) : Statement (.eorAbsY w) := ⟨rfl, Nat.le_of_ble_eq_true rfl⟩
theorem eorAbsX (w : Word) : Statement (.eorAbsX w) := ⟨rfl, Nat.le_of_ble_eq_true rfl⟩
theorem cmpIndX (b : Byte) : Statement (.cmpIndX b) := ⟨rfl, Nat.le_of_ble_eq_true rfl⟩
theorem cmpZp (b : Byte) : Statement (.cmpZp b) := ⟨rfl, Nat.le_of_ble_eq_true rfl⟩
theorem cmpImm (v : Byte) : Statement (.cmpImm v) := ⟨rfl, Nat.le_of_ble_eq_true rfl⟩
theorem cmpAbs (w : Word) : Statement (.cmpAbs w) := ⟨rfl, Nat.le_of_ble_eq_true rfl⟩
theorem cmpIndY (b : Byte) : Statement (.cmpIndY b) := ⟨rfl, Nat.le_of_ble_eq_true rfl⟩
theorem cmpZpX (b : Byte) : Statement (.cmpZpX b) := ⟨rfl, Nat.le_of_ble_eq_true rfl⟩
theorem cmpAbsY (w : Word) : Statement (.cmpAbsY w) := ⟨rfl, Nat.le_of_ble_eq_true rfl⟩
theorem cmpAbsX (w : Word) : Statement (.cmpAbsX w) := ⟨rfl, Nat.le_of_ble_eq_true rfl⟩
theorem cpxImm (v : Byte) : Statement (.cpxImm v) := ⟨rfl, Nat.le_of_ble_eq_true rfl⟩
theorem cpxZp (b : Byte) : Statement (.cpxZp b) := ⟨rfl, Nat.le_of_ble_eq_true rfl⟩
theorem cpxAbs (w : Word) : Statement (.cpxAbs w) := ⟨rfl, Nat.le_of_ble_eq_true rfl⟩
theorem cpyImm (v : Byte) : Statement (.cpyImm v) := ⟨rfl, Nat.le_of_ble_eq_true rfl⟩
theorem cpyZp (b : Byte) : Statement (.cpyZp b) := ⟨rfl, Nat.le_of_ble_eq_true rfl⟩
theorem cpyAbs (w : Word) : Statement (.cpyAbs w) := ⟨rfl, Nat.le_of_ble_eq_true rfl⟩
theorem bitZp (b : Byte) : Statement (.bitZp b) := ⟨rfl, Nat.le_of_ble_eq_true rfl⟩
theorem bitAbs (w : Word) : Statement (.bitAbs w) := ⟨rfl, Nat.le_of_ble_eq_true rfl⟩
theorem incZp (b : Byte) : Statement (.incZp b) := ⟨rfl, Nat.le_of_ble_eq_true rfl⟩
theorem incAbs (w : Word) : Statement (.incAbs w) := ⟨rfl, Nat.le_of_ble_eq_true rfl⟩
theorem incZpX (b : Byte) : Statement (.incZpX b) := ⟨rfl, Nat.le_of_ble_eq_true rfl⟩
theorem incAbsX (w : Word) : Statement (.incAbsX w) := ⟨rfl, Nat.le_of_ble_eq_true rfl⟩
theorem decZp (b : Byte) : Statement (.decZp b) := ⟨rfl, Nat.le_of_ble_eq_true rfl⟩
theorem decAbs (w : Word) : Statement (.decAbs w) := ⟨rfl, Nat.le_of_ble_eq_true rfl⟩
theorem decZpX (b : Byte) : Statement (.decZpX b) := ⟨rfl, Nat.le_of_ble_eq_true rfl⟩
theorem decAbsX (w : Word) : Statement (.decAbsX w) := ⟨rfl, Nat.le_of_ble_eq_true rfl⟩
theorem inx : Statement (.inx) := ⟨rfl, Nat.le_of_ble_eq_true rfl⟩
theorem iny : Statement (.iny) := ⟨rfl, Nat.le_of_ble_eq_true rfl⟩
theorem dex : Statement (.dex) := ⟨rfl, Nat.le_of_ble_eq_true rfl⟩
theorem dey : Statement (.dey) := ⟨rfl, Nat.le_of_ble_eq_true rfl⟩
theorem aslZp (b : Byte) : Statement (.aslZp b) := ⟨rfl, Nat.le_of_ble_eq_true rfl⟩
theorem aslAcc : Statement (.aslAcc) := ⟨rfl, Nat.le_of_ble_eq_true rfl⟩
theorem aslAbs (w : Word) : Statement (.aslAbs w) := ⟨rfl, Nat.le_of_ble_eq_true rfl⟩
theorem aslZpX (b : Byte) : Statement (.aslZpX b) := ⟨rfl, Nat.le_of_ble_eq_true rfl⟩
theorem aslAbsX (w : Word) : Statement (.aslAbsX w) := ⟨rfl, Nat.le_of_ble_eq_true rfl⟩
theorem lsrZp (b : Byte) : Statement (.lsrZp b) := ⟨rfl, Nat.le_of_ble_eq_true rfl⟩
theorem lsrAcc : Statement (.lsrAcc) := ⟨rfl, Nat.le_of_ble_eq_true rfl⟩
theorem lsrAbs (w : Word) : Statement (.lsrAbs w) := ⟨rfl, Nat.le_of_ble_eq_true rfl⟩
theorem lsrZpX (b : Byte) : Statement (.lsrZpX b) := ⟨rfl, Nat.le_of_ble_eq_true rfl⟩
theorem lsrAbsX (w : Word) : Statement (.lsrAbsX w) := ⟨rfl, Nat.le_of_ble_eq_true rfl⟩
theorem rolZp (b : Byte) : Statement (.rolZp b) := ⟨rfl, Nat.le_of_ble_eq_true rfl⟩
theorem rolAcc : Statement (.rolAcc) := ⟨rfl, Nat.le_of_ble_eq_true rfl⟩
theorem rolAbs (w : Word) : Statement (.rolAbs w) := ⟨rfl, Nat.le_of_ble_eq_true rfl⟩
theorem rolZpX (b : Byte) : Statement (.rolZpX b) := ⟨rfl, Nat.le_of_ble_eq_true rfl⟩
theorem rolAbsX (w : Word) : Statement (.rolAbsX w) := ⟨rfl, Nat.le_of_ble_eq_true rfl⟩
theorem rorZp (b : Byte) : Statement (.rorZp b) := ⟨rfl, Nat.le_of_ble_eq_true rfl⟩
theorem rorAcc : Statement (.rorAcc) := ⟨rfl, Nat.le_of_ble_eq_true rfl⟩
theorem rorAbs (w : Word) : Statement (.rorAbs w) := ⟨rfl, Nat.le_of_ble_eq_true rfl⟩
theorem rorZpX (b : Byte) : Statement (.rorZpX b) := ⟨rfl, Nat.le_of_ble_eq_true rfl⟩
theorem rorAbsX (w : Word) : Statement (.rorAbsX w) := ⟨rfl, Nat.le_of_ble_eq_true rfl⟩
theorem jsr (w : Word) : Statement (.jsr w) := ⟨rfl, Nat.le_of_ble_eq_true rfl⟩
theorem jmpAbs (w : Word) : Statement (.jmpAbs w) := ⟨rfl, Nat.le_of_ble_eq_true rfl⟩
theorem jmpInd (w : Word) : Statement (.jmpInd w) := ⟨rfl, Nat.le_of_ble_eq_true rfl⟩
theorem rts : Statement (.rts) := ⟨rfl, Nat.le_of_ble_eq_true rfl⟩
theorem bpl (off : Byte) : Statement (.bpl off) := ⟨rfl, Nat.le_of_ble_eq_true rfl⟩
theorem bmi (off : Byte) : Statement (.bmi off) := ⟨rfl, Nat.le_of_ble_eq_true rfl⟩
theorem bvc (off : Byte) : Statement (.bvc off) := ⟨rfl, Nat.le_of_ble_eq_true rfl⟩
theorem bvs (off : Byte) : Statement (.bvs off) := ⟨rfl, Nat.le_of_ble_eq_true rfl⟩
theorem bcc (off : Byte) : Statement (.bcc off) := ⟨rfl, Nat.le_of_ble_eq_true rfl⟩
theorem bcs (off : Byte) : Statement (.bcs off) := ⟨rfl, Nat.le_of_ble_eq_true rfl⟩
theorem bne (off : Byte) : Statement (.bne off) := ⟨rfl, Nat.le_of_ble_eq_true rfl⟩
theorem beq (off : Byte) : Statement (.beq off) := ⟨rfl, Nat.le_of_ble_eq_true rfl⟩
theorem brk : Statement (.brk) := ⟨rfl, Nat.le_of_ble_eq_true rfl⟩
theorem rti : Statement (.rti) := ⟨rfl, Nat.le_of_ble_eq_true rfl⟩
theorem nop : Statement (.nop) := ⟨rfl, Nat.le_of_ble_eq_true rfl⟩
theorem pha : Statement (.pha) := ⟨rfl, Nat.le_of_ble_eq_true rfl⟩
theorem pla : Statement (.pla) := ⟨rfl, Nat.le_of_ble_eq_true rfl⟩
theorem php : Statement (.php) := ⟨rfl, Nat.le_of_ble_eq_true rfl⟩
theorem plp : Statement (.plp) := ⟨rfl, Nat.le_of_ble_eq_true rfl⟩
theorem tax : Statement (.tax) := ⟨rfl, Nat.le_of_ble_eq_true rfl⟩
theorem tay : Statement (.tay) := ⟨rfl, Nat.le_of_ble_eq_true rfl⟩
theorem txa : Statement (.txa) := ⟨rfl, Nat.le_of_ble_eq_true rfl⟩
theorem tya : Statement (.tya) := ⟨rfl, Nat.le_of_ble_eq_true rfl⟩
theorem tsx : Statement (.tsx) := ⟨rfl, Nat.le_of_ble_eq_true rfl⟩
theorem txs : Statement (.txs) := ⟨rfl, Nat.le_of_ble_eq_true rfl⟩
theorem clc : Statement (.clc) := ⟨rfl, Nat.le_of_ble_eq_true rfl⟩
theorem sec : Statement (.sec) := ⟨rfl, Nat.le_of_ble_eq_true rfl⟩
theorem cli : Statement (.cli) := ⟨rfl, Nat.le_of_ble_eq_true rfl⟩
theorem sei : Statement (.sei) := ⟨rfl, Nat.le_of_ble_eq_true rfl⟩
theorem cld : Statement (.cld) := ⟨rfl, Nat.le_of_ble_eq_true rfl⟩
theorem sed : Statement (.sed) := ⟨rfl, Nat.le_of_ble_eq_true rfl⟩
theorem clv : Statement (.clv) := ⟨rfl, Nat.le_of_ble_eq_true rfl⟩

end Sys2Proof.Laws.Length
end

