-- ==== Sys2Proof/Laws/Step.lean ====
section
/-! SUPPORT. What a step that goes on has done, said once. -/

namespace Sys2Proof.Machine

/-- A step that goes on passed every check of 60_exceptions.md R305 and ran one instruction. -/
theorem step_next {st t : State} (h : step st = .next t) :
    st.resetDone = true ∧ 0 < st.cycles ∧
      ∃ i rest, decodeAt st = .ok (i, rest) ∧ exec i st.fetched = .next t := by
  unfold step engineStep at h
  split at h
  · next hr =>
    split at h
    · cases h
    · next hc =>
      split at h
      · next i rest hd => exact ⟨hr, by omega, i, rest, hd, h⟩
      · cases h
  · cases h

end Sys2Proof.Machine
end

