-- ==== Sys2Proof/Tests/Slice0.lean ====
section
/-! SUPPORT. The model's own tests: the well-formedness smoke, decoding of words written out from the spec's
tables, one step of each instruction against 95_test_vectors.md, and a witness for the hypotheses of each
statement. -/

namespace Sys2Proof.Tests

open Sys2Proof Sys2Proof.Machine Sys2Proof.Statements

/-! ## Helpers -/

/-- The next state of an outcome. -/
def nextOf (o : Host.Outcome State Fault Refusal) : Option State :=
  match o with
  | .next t => some t
  | .fault _ => none
  | .refused _ => none

/-- The fault of an outcome. -/
def faultOf (o : Host.Outcome State Fault Refusal) : Option Fault :=
  match o with
  | .next _ => none
  | .fault r => some r
  | .refused _ => none

/-- The refusal of an outcome. -/
def refusalOf (o : Host.Outcome State Fault Refusal) : Option Refusal :=
  match o with
  | .next _ => none
  | .fault _ => none
  | .refused r => some r

/-- The vectors' start: as Reset leaves it, PC at 0x0200, inside Execute with budget 1. -/
def start : State := { State.reset with pc := 0x0200#16, cycles := 1 }

/-- The host pokes single bytes. -/
def withBytes (l : List (Word × Byte)) (st : State) : State := l.foldl (fun st e => st.poke e.1 e.2) st

/-- The state with a program at PC. -/
def program (bytes : List Byte) (st : State) : State := pokeBytes st.pc bytes st

/-- One step of a program at PC. -/
def after (bytes : List Byte) (st : State) : Option State := nextOf (step (program bytes st))

/-- The instruction NMOS151 decodes from bytes that are exactly its length. -/
def decoded (bytes : List Byte) : Option Instr :=
  match decode .nmos151 bytes with
  | .ok (i, []) => some i
  | _ => none

/-- Bytes that do not decode. -/
def undecodable (p : Profile) (bytes : List Byte) : Bool :=
  match decode p bytes with
  | .ok _ => false
  | .error _ => true

/-! ## Well-formedness: what is not an instruction of the profile is refused -/

theorem test_wf_refuses_nop_in_doc4 : Instr.wf .doc4 .nop = false := by decide
theorem test_wf_refuses_lda_absolute_in_doc4 : Instr.wf .doc4 (.ldaAbs 0x1234#16) = false := by decide
theorem test_wf_accepts_doc4_four :
    (Instr.wf .doc4 (.ldaImm 0x00#8) && Instr.wf .doc4 (.ldaZp 0xFF#8) && Instr.wf .doc4 (.ldaZpX 0x10#8) &&
      Instr.wf .doc4 (.jsr 0xFFFF#16)) = true := by decide
theorem test_wf_accepts_nop_in_nmos151 : Instr.wf .nmos151 .nop = true := by decide

/-! ## Decoding: every constructor, from its rule's table; and what does not decode -/

/-- R86, R113, and bytes that end inside an instruction. -/
theorem test_decode_rejects :
    ([[], [0x02#8, 0x00#8, 0x00#8], [0x89#8, 0x01#8], [0xFF#8], [0xA9#8], [0x4C#8, 0x00#8]].map
      (undecodable .nmos151)) = [true, true, true, true, true, true] := by decide

/-- R85: DOC4 decodes four opcodes. -/
theorem test_decode_doc4 :
    ([[0xA9#8, 0x42#8], [0xA5#8, 0x42#8], [0xB5#8, 0x42#8], [0x20#8, 0x34#8, 0x12#8], [0xEA#8], [0x00#8]].map
      (undecodable .doc4)) = [false, false, false, false, true, true] := by decide

/-- The table's numbering: the operand's low byte is bits 15..8 of the word (R82). -/
theorem test_decode_table_word : decodeTableWord 24 0x12344C = some (.jmpAbs 0x1234#16) := by decide

/-- Operand bits above the table's are zero. -/
theorem test_decode_table_word_short : decodeTableWord 8 0xBD = some (.ldaAbsX 0x0000#16) := by decide

/-- The host's probe: a table word runs as the first instruction after reset. -/
theorem test_with_fetch_word :
    (nextOf (step (State.reset.withFetchWord 16 0x84A9))).map (fun t => (t.a, t.flags.n, t.pc)) =
      some (0x84#8, true, 0xFFFE#16) := by decide

/-- Reset memory is in canonical form, and so is memory with bytes poked in any order, zeros left out. -/
theorem test_memory_canonical :
    Memory.wf (withBytes [(0xFFFF#16, 0x01#8), (0x0000#16, 0x02#8), (0x0100#16, 0x00#8), (0xFFFF#16, 0x00#8)]
      State.reset).mem = true ∧
    (withBytes [(0xFFFF#16, 0x01#8), (0x0000#16, 0x02#8), (0x0100#16, 0x00#8), (0xFFFF#16, 0x00#8)]
      State.reset).mem = [(0, 0x02#8)] := by decide

/-- Words of LDA, LDX, LDY, by the opcode and operand columns of their rules. -/
theorem test_decode_loads :
    [[0xA1#8, 0x9C#8], [0xA5#8, 0x9C#8], [0xA9#8, 0x9C#8], [0xAD#8, 0x34#8, 0x12#8], [0xB1#8, 0x9C#8], [0xB5#8, 0x9C#8],
      [0xB9#8, 0x34#8, 0x12#8], [0xBD#8, 0x34#8, 0x12#8], [0xA2#8, 0x9C#8], [0xA6#8, 0x9C#8], [0xAE#8, 0x34#8, 0x12#8], [0xB6#8, 0x9C#8],
      [0xBE#8, 0x34#8, 0x12#8], [0xA0#8, 0x9C#8], [0xA4#8, 0x9C#8], [0xAC#8, 0x34#8, 0x12#8], [0xB4#8, 0x9C#8], [0xBC#8, 0x34#8, 0x12#8]].map decoded =
    [some (.ldaIndX 0x9C#8), some (.ldaZp 0x9C#8), some (.ldaImm 0x9C#8), some (.ldaAbs 0x1234#16), some (.ldaIndY 0x9C#8), some (.ldaZpX 0x9C#8),
      some (.ldaAbsY 0x1234#16), some (.ldaAbsX 0x1234#16), some (.ldxImm 0x9C#8), some (.ldxZp 0x9C#8), some (.ldxAbs 0x1234#16), some (.ldxZpY 0x9C#8),
      some (.ldxAbsY 0x1234#16), some (.ldyImm 0x9C#8), some (.ldyZp 0x9C#8), some (.ldyAbs 0x1234#16), some (.ldyZpX 0x9C#8), some (.ldyAbsX 0x1234#16)] := by
  decide

/-- Words of STA, STX, STY, by the opcode and operand columns of their rules. -/
theorem test_decode_stores :
    [[0x81#8, 0x9C#8], [0x85#8, 0x9C#8], [0x8D#8, 0x34#8, 0x12#8], [0x91#8, 0x9C#8], [0x95#8, 0x9C#8], [0x99#8, 0x34#8, 0x12#8],
      [0x9D#8, 0x34#8, 0x12#8], [0x86#8, 0x9C#8], [0x8E#8, 0x34#8, 0x12#8], [0x96#8, 0x9C#8], [0x84#8, 0x9C#8], [0x8C#8, 0x34#8, 0x12#8],
      [0x94#8, 0x9C#8]].map decoded =
    [some (.staIndX 0x9C#8), some (.staZp 0x9C#8), some (.staAbs 0x1234#16), some (.staIndY 0x9C#8), some (.staZpX 0x9C#8), some (.staAbsY 0x1234#16),
      some (.staAbsX 0x1234#16), some (.stxZp 0x9C#8), some (.stxAbs 0x1234#16), some (.stxZpY 0x9C#8), some (.styZp 0x9C#8), some (.styAbs 0x1234#16),
      some (.styZpX 0x9C#8)] := by
  decide

/-- Words of ADC, SBC, by the opcode and operand columns of their rules. -/
theorem test_decode_add_subtract :
    [[0x61#8, 0x9C#8], [0x65#8, 0x9C#8], [0x69#8, 0x9C#8], [0x6D#8, 0x34#8, 0x12#8], [0x71#8, 0x9C#8], [0x75#8, 0x9C#8],
      [0x79#8, 0x34#8, 0x12#8], [0x7D#8, 0x34#8, 0x12#8], [0xE1#8, 0x9C#8], [0xE5#8, 0x9C#8], [0xE9#8, 0x9C#8], [0xED#8, 0x34#8, 0x12#8],
      [0xF1#8, 0x9C#8], [0xF5#8, 0x9C#8], [0xF9#8, 0x34#8, 0x12#8], [0xFD#8, 0x34#8, 0x12#8]].map decoded =
    [some (.adcIndX 0x9C#8), some (.adcZp 0x9C#8), some (.adcImm 0x9C#8), some (.adcAbs 0x1234#16), some (.adcIndY 0x9C#8), some (.adcZpX 0x9C#8),
      some (.adcAbsY 0x1234#16), some (.adcAbsX 0x1234#16), some (.sbcIndX 0x9C#8), some (.sbcZp 0x9C#8), some (.sbcImm 0x9C#8), some (.sbcAbs 0x1234#16),
      some (.sbcIndY 0x9C#8), some (.sbcZpX 0x9C#8), some (.sbcAbsY 0x1234#16), some (.sbcAbsX 0x1234#16)] := by
  decide

/-- Words of AND, ORA, EOR, by the opcode and operand columns of their rules. -/
theorem test_decode_logic :
    [[0x21#8, 0x9C#8], [0x25#8, 0x9C#8], [0x29#8, 0x9C#8], [0x2D#8, 0x34#8, 0x12#8], [0x31#8, 0x9C#8], [0x35#8, 0x9C#8],
      [0x39#8, 0x34#8, 0x12#8], [0x3D#8, 0x34#8, 0x12#8], [0x01#8, 0x9C#8], [0x05#8, 0x9C#8], [0x09#8, 0x9C#8], [0x0D#8, 0x34#8, 0x12#8],
      [0x11#8, 0x9C#8], [0x15#8, 0x9C#8], [0x19#8, 0x34#8, 0x12#8], [0x1D#8, 0x34#8, 0x12#8], [0x41#8, 0x9C#8], [0x45#8, 0x9C#8],
      [0x49#8, 0x9C#8], [0x4D#8, 0x34#8, 0x12#8], [0x51#8, 0x9C#8], [0x55#8, 0x9C#8], [0x59#8, 0x34#8, 0x12#8], [0x5D#8, 0x34#8, 0x12#8]].map decoded =
    [some (.andIndX 0x9C#8), some (.andZp 0x9C#8), some (.andImm 0x9C#8), some (.andAbs 0x1234#16), some (.andIndY 0x9C#8), some (.andZpX 0x9C#8),
      some (.andAbsY 0x1234#16), some (.andAbsX 0x1234#16), some (.oraIndX 0x9C#8), some (.oraZp 0x9C#8), some (.oraImm 0x9C#8), some (.oraAbs 0x1234#16),
      some (.oraIndY 0x9C#8), some (.oraZpX 0x9C#8), some (.oraAbsY 0x1234#16), some (.oraAbsX 0x1234#16), some (.eorIndX 0x9C#8), some (.eorZp 0x9C#8),
      some (.eorImm 0x9C#8), some (.eorAbs 0x1234#16), some (.eorIndY 0x9C#8), some (.eorZpX 0x9C#8), some (.eorAbsY 0x1234#16), some (.eorAbsX 0x1234#16)] := by
  decide

/-- Words of CMP, CPX, CPY, BIT, by the opcode and operand columns of their rules. -/
theorem test_decode_compare_bit :
    [[0xC1#8, 0x9C#8], [0xC5#8, 0x9C#8], [0xC9#8, 0x9C#8], [0xCD#8, 0x34#8, 0x12#8], [0xD1#8, 0x9C#8], [0xD5#8, 0x9C#8],
      [0xD9#8, 0x34#8, 0x12#8], [0xDD#8, 0x34#8, 0x12#8], [0xE0#8, 0x9C#8], [0xE4#8, 0x9C#8], [0xEC#8, 0x34#8, 0x12#8], [0xC0#8, 0x9C#8],
      [0xC4#8, 0x9C#8], [0xCC#8, 0x34#8, 0x12#8], [0x24#8, 0x9C#8], [0x2C#8, 0x34#8, 0x12#8]].map decoded =
    [some (.cmpIndX 0x9C#8), some (.cmpZp 0x9C#8), some (.cmpImm 0x9C#8), some (.cmpAbs 0x1234#16), some (.cmpIndY 0x9C#8), some (.cmpZpX 0x9C#8),
      some (.cmpAbsY 0x1234#16), some (.cmpAbsX 0x1234#16), some (.cpxImm 0x9C#8), some (.cpxZp 0x9C#8), some (.cpxAbs 0x1234#16), some (.cpyImm 0x9C#8),
      some (.cpyZp 0x9C#8), some (.cpyAbs 0x1234#16), some (.bitZp 0x9C#8), some (.bitAbs 0x1234#16)] := by
  decide

/-- Words of INC, DEC, INX, INY, DEX, DEY, by the opcode and operand columns of their rules. -/
theorem test_decode_increment_decrement :
    [[0xE6#8, 0x9C#8], [0xEE#8, 0x34#8, 0x12#8], [0xF6#8, 0x9C#8], [0xFE#8, 0x34#8, 0x12#8], [0xC6#8, 0x9C#8], [0xCE#8, 0x34#8, 0x12#8],
      [0xD6#8, 0x9C#8], [0xDE#8, 0x34#8, 0x12#8], [0xE8#8], [0xC8#8], [0xCA#8], [0x88#8]].map decoded =
    [some (.incZp 0x9C#8), some (.incAbs 0x1234#16), some (.incZpX 0x9C#8), some (.incAbsX 0x1234#16), some (.decZp 0x9C#8), some (.decAbs 0x1234#16),
      some (.decZpX 0x9C#8), some (.decAbsX 0x1234#16), some .inx, some .iny, some .dex, some .dey] := by
  decide

/-- Words of ASL, LSR, ROL, ROR, by the opcode and operand columns of their rules. -/
theorem test_decode_shifts :
    [[0x06#8, 0x9C#8], [0x0A#8], [0x0E#8, 0x34#8, 0x12#8], [0x16#8, 0x9C#8], [0x1E#8, 0x34#8, 0x12#8], [0x46#8, 0x9C#8],
      [0x4A#8], [0x4E#8, 0x34#8, 0x12#8], [0x56#8, 0x9C#8], [0x5E#8, 0x34#8, 0x12#8], [0x26#8, 0x9C#8], [0x2A#8],
      [0x2E#8, 0x34#8, 0x12#8], [0x36#8, 0x9C#8], [0x3E#8, 0x34#8, 0x12#8], [0x66#8, 0x9C#8], [0x6A#8], [0x6E#8, 0x34#8, 0x12#8],
      [0x76#8, 0x9C#8], [0x7E#8, 0x34#8, 0x12#8]].map decoded =
    [some (.aslZp 0x9C#8), some .aslAcc, some (.aslAbs 0x1234#16), some (.aslZpX 0x9C#8), some (.aslAbsX 0x1234#16), some (.lsrZp 0x9C#8),
      some .lsrAcc, some (.lsrAbs 0x1234#16), some (.lsrZpX 0x9C#8), some (.lsrAbsX 0x1234#16), some (.rolZp 0x9C#8), some .rolAcc,
      some (.rolAbs 0x1234#16), some (.rolZpX 0x9C#8), some (.rolAbsX 0x1234#16), some (.rorZp 0x9C#8), some .rorAcc, some (.rorAbs 0x1234#16),
      some (.rorZpX 0x9C#8), some (.rorAbsX 0x1234#16)] := by
  decide

/-- Words of JSR, JMP, RTS, BRK, RTI, NOP, by the opcode and operand columns of their rules. -/
theorem test_decode_jumps_and_traps :
    [[0x20#8, 0x34#8, 0x12#8], [0x4C#8, 0x34#8, 0x12#8], [0x6C#8, 0x34#8, 0x12#8], [0x60#8], [0x00#8], [0x40#8],
      [0xEA#8]].map decoded =
    [some (.jsr 0x1234#16), some (.jmpAbs 0x1234#16), some (.jmpInd 0x1234#16), some .rts, some .brk, some .rti,
      some .nop] := by
  decide

/-- Words of BPL, BMI, BVC, BVS, BCC, BCS, BNE, BEQ, by the opcode and operand columns of their rules. -/
theorem test_decode_branches :
    [[0x10#8, 0x9C#8], [0x30#8, 0x9C#8], [0x50#8, 0x9C#8], [0x70#8, 0x9C#8], [0x90#8, 0x9C#8], [0xB0#8, 0x9C#8],
      [0xD0#8, 0x9C#8], [0xF0#8, 0x9C#8]].map decoded =
    [some (.bpl 0x9C#8), some (.bmi 0x9C#8), some (.bvc 0x9C#8), some (.bvs 0x9C#8), some (.bcc 0x9C#8), some (.bcs 0x9C#8),
      some (.bne 0x9C#8), some (.beq 0x9C#8)] := by
  decide

/-- Words of PHA, PLA, PHP, PLP, TAX, TAY, TXA, TYA, TSX, TXS, by the opcode and operand columns of their rules. -/
theorem test_decode_stack_and_transfers :
    [[0x48#8], [0x68#8], [0x08#8], [0x28#8], [0xAA#8], [0xA8#8],
      [0x8A#8], [0x98#8], [0xBA#8], [0x9A#8]].map decoded =
    [some .pha, some .pla, some .php, some .plp, some .tax, some .tay,
      some .txa, some .tya, some .tsx, some .txs] := by
  decide

/-- Words of CLC, SEC, CLI, SEI, CLD, SED, CLV, by the opcode and operand columns of their rules. -/
theorem test_decode_flags :
    [[0x18#8], [0x38#8], [0x58#8], [0x78#8], [0xD8#8], [0xF8#8],
      [0xB8#8]].map decoded =
    [some .clc, some .sec, some .cli, some .sei, some .cld, some .sed,
      some .clv] := by
  decide

/-! ## One step each: the derived vectors of 95_test_vectors.md -/

/-- 95_test_vectors.md: "(zp,X) pointer wraps in page 0 (R133)". -/
theorem test_lda_indirect_x_pointer_wraps_in_page_0 :
    (after [0xA1#8, 0xFE#8] (withBytes [(0x0000#16, 0x40#8), (0x00FF#16, 0x00#8), (0x4000#16, 0x43#8)] { start with x := 0x01#8 })).map (fun t => (t.pc, packP true t.flags, t.cycles, t.a)) =
      some (0x0202#16, 0x30#8, -5, 0x43#8) := by decide

/-- 95_test_vectors.md: "zp (R127)". -/
theorem test_lda_zp :
    (after [0xA5#8, 0x10#8] (withBytes [(0x0010#16, 0x55#8)] start)).map (fun t => (t.pc, packP true t.flags, t.cycles, t.a)) =
      some (0x0202#16, 0x30#8, -2, 0x55#8) := by decide

/-- 95_test_vectors.md: "LDA negative (R160)". -/
theorem test_lda_negative :
    (after [0xA9#8, 0x80#8] { start with flags := { Flags.zero with z := true } }).map (fun t => (t.pc, packP true t.flags, t.cycles, t.a)) =
      some (0x0202#16, 0xB0#8, -1, 0x80#8) := by decide

/-- 95_test_vectors.md: "abs (R130)". -/
theorem test_lda_abs :
    (after [0xAD#8, 0x34#8, 0x12#8] (withBytes [(0x1234#16, 0x01#8)] start)).map (fun t => (t.pc, packP true t.flags, t.cycles, t.a)) =
      some (0x0203#16, 0x30#8, -3, 0x01#8) := by decide

/-- 95_test_vectors.md: "(zp),Y page cross +1 (R134)". -/
theorem test_lda_indirect_y_page_cross_plus_1 :
    (after [0xB1#8, 0x20#8] (withBytes [(0x0020#16, 0xF8#8), (0x0021#16, 0x30#8), (0x3108#16, 0x45#8)] { start with y := 0x10#8 })).map (fun t => (t.pc, packP true t.flags, t.cycles, t.a)) =
      some (0x0202#16, 0x30#8, -5, 0x45#8) := by decide

/-- 95_test_vectors.md: "(zp),Y pointer at 0xFF wraps (R134)". -/
theorem test_lda_indirect_y_pointer_at_0xff_wraps :
    (after [0xB1#8, 0xFF#8] (withBytes [(0x0000#16, 0x50#8), (0x00FF#16, 0x00#8), (0x5000#16, 0x46#8)] { start with y := 0x00#8 })).map (fun t => (t.pc, packP true t.flags, t.cycles, t.a)) =
      some (0x0202#16, 0x30#8, -4, 0x46#8) := by decide

/-- 95_test_vectors.md: "zp,X wraps in page 0 (R128, D3)". -/
theorem test_lda_zp_x_wraps_in_page_0 :
    (after [0xB5#8, 0xF0#8] (withBytes [(0x0010#16, 0x77#8), (0x0110#16, 0x99#8)] { start with x := 0x20#8 })).map (fun t => (t.pc, packP true t.flags, t.cycles, t.a)) =
      some (0x0202#16, 0x30#8, -3, 0x77#8) := by decide

/-- 95_test_vectors.md: "abs,Y page cross +1 (R132)". -/
theorem test_lda_abs_y_page_cross_plus_1 :
    (after [0xB9#8, 0xFF#8, 0x12#8] (withBytes [(0x1300#16, 0x05#8)] { start with y := 0x01#8 })).map (fun t => (t.pc, packP true t.flags, t.cycles, t.a)) =
      some (0x0203#16, 0x30#8, -4, 0x05#8) := by decide

/-- 95_test_vectors.md: "abs,X page cross +1 (R131)". -/
theorem test_lda_abs_x_page_cross_plus_1 :
    (after [0xBD#8, 0xF0#8, 0x12#8] (withBytes [(0x1310#16, 0x03#8)] { start with x := 0x20#8 })).map (fun t => (t.pc, packP true t.flags, t.cycles, t.a)) =
      some (0x0203#16, 0x30#8, -4, 0x03#8) := by decide

/-- 95_test_vectors.md: "abs,X wraps 16 bits (R131, D2)". -/
theorem test_lda_abs_x_wraps_16_bits :
    (after [0xBD#8, 0xFF#8, 0xFF#8] (withBytes [(0x0001#16, 0x04#8)] { start with x := 0x02#8 })).map (fun t => (t.pc, packP true t.flags, t.cycles, t.a)) =
      some (0x0203#16, 0x30#8, -4, 0x04#8) := by decide

/-- 95_test_vectors.md: "LDX imm (R161)". -/
theorem test_ldx_imm :
    (after [0xA2#8, 0xFF#8] start).map (fun t => (t.pc, packP true t.flags, t.cycles, t.x)) =
      some (0x0202#16, 0xB0#8, -1, 0xFF#8) := by decide

/-- 95_test_vectors.md: "zp,Y wraps (R129), LDX". -/
theorem test_ldx_zp_y_wraps_ldx :
    (after [0xB6#8, 0xFF#8] (withBytes [(0x0001#16, 0x81#8)] { start with y := 0x02#8 })).map (fun t => (t.pc, packP true t.flags, t.cycles, t.x)) =
      some (0x0202#16, 0xB0#8, -3, 0x81#8) := by decide

/-- 95_test_vectors.md: "LDY zp,X (R162)". -/
theorem test_ldy_zp_x :
    (after [0xB4#8, 0x10#8] (withBytes [(0x0011#16, 0x00#8)] { start with x := 0x01#8 })).map (fun t => (t.pc, packP true t.flags, t.cycles)) =
      some (0x0202#16, 0x32#8, -3) := by decide

/-- 95_test_vectors.md: "LDY abs,X page cross (R162)". -/
theorem test_ldy_abs_x_page_cross :
    (after [0xBC#8, 0xFF#8, 0x20#8] (withBytes [(0x2100#16, 0x01#8)] { start with x := 0x01#8 })).map (fun t => (t.pc, packP true t.flags, t.cycles, t.y)) =
      some (0x0203#16, 0x30#8, -4, 0x01#8) := by decide

/-- 95_test_vectors.md: "STA zp leaves flags (R163)". -/
theorem test_sta_zp_leaves_flags :
    (after [0x85#8, 0x40#8] { start with a := 0x00#8, flags := { Flags.zero with n := true } }).map (fun t => (t.pc, packP true t.flags, t.cycles)) =
      some (0x0202#16, 0xB0#8, -2) := by decide

/-- 95_test_vectors.md: "STA (zp),Y always 6 (R134 write)". -/
theorem test_sta_indirect_y_always_6 :
    (after [0x91#8, 0x20#8] (withBytes [(0x0020#16, 0x00#8), (0x0021#16, 0x30#8)] { start with a := 0x11#8, y := 0x01#8 })).map (fun t => (t.pc, packP true t.flags, t.cycles, t.peek 0x3001#16)) =
      some (0x0202#16, 0x30#8, -5, 0x11#8) := by decide

/-- 95_test_vectors.md: "STA abs,X no penalty variation (R131 write)". -/
theorem test_sta_abs_x_no_penalty_variation :
    (after [0x9D#8, 0x00#8, 0x12#8] { start with a := 0xAA#8, x := 0x01#8 }).map (fun t => (t.pc, packP true t.flags, t.cycles, t.peek 0x1201#16)) =
      some (0x0203#16, 0x30#8, -4, 0xAA#8) := by decide

/-- 95_test_vectors.md: "STX zp,Y wraps (R164)". -/
theorem test_stx_zp_y_wraps :
    (after [0x96#8, 0xFF#8] { start with x := 0x5A#8, y := 0x02#8 }).map (fun t => (t.pc, packP true t.flags, t.cycles, t.peek 0x0001#16)) =
      some (0x0202#16, 0x30#8, -3, 0x5A#8) := by decide

/-- 95_test_vectors.md: "STY abs (R165)". -/
theorem test_sty_abs :
    (after [0x8C#8, 0x00#8, 0x03#8] { start with y := 0x80#8 }).map (fun t => (t.pc, packP true t.flags, t.cycles, t.peek 0x0300#16)) =
      some (0x0203#16, 0x30#8, -3, 0x80#8) := by decide

/-- 95_test_vectors.md: "ADC overflow 0x80+0x80". -/
theorem test_adc_overflow_0x80_plus_0x80 :
    (after [0x69#8, 0x80#8] { start with a := 0x80#8 }).map (fun t => (t.pc, packP true t.flags, t.cycles, t.a)) =
      some (0x0202#16, 0x73#8, -1, 0x00#8) := by decide

/-- 95_test_vectors.md: "ADC decimal 0x58+0x46+1". -/
theorem test_adc_decimal_0x58_plus_0x46_plus_1 :
    (after [0x69#8, 0x46#8] { start with a := 0x58#8, flags := { Flags.zero with d := true, c := true } }).map (fun t => (t.pc, packP true t.flags, t.cycles, t.a)) =
      some (0x0202#16, 0xF9#8, -1, 0x05#8) := by decide

/-- 95_test_vectors.md: "SBC 0x50-0xB0 overflow". -/
theorem test_sbc_0x50_0xb0_overflow :
    (after [0xE9#8, 0xB0#8] { start with a := 0x50#8, flags := { Flags.zero with c := true } }).map (fun t => (t.pc, packP true t.flags, t.cycles, t.a)) =
      some (0x0202#16, 0xF0#8, -1, 0xA0#8) := by decide

/-- 95_test_vectors.md: "SBC decimal 0x00-0x01 (R183)". -/
theorem test_sbc_decimal_0x00_0x01 :
    (after [0xE9#8, 0x01#8] { start with a := 0x00#8, flags := { Flags.zero with c := true, d := true } }).map (fun t => (t.pc, packP true t.flags, t.cycles, t.a)) =
      some (0x0202#16, 0xB8#8, -1, 0x99#8) := by decide

/-- 95_test_vectors.md: "AND to zero (R186)". -/
theorem test_and_to_zero :
    (after [0x29#8, 0x0F#8] { start with a := 0xF0#8 }).map (fun t => (t.pc, packP true t.flags, t.cycles, t.a)) =
      some (0x0202#16, 0x32#8, -1, 0x00#8) := by decide

/-- 95_test_vectors.md: "ORA negative (R187)". -/
theorem test_ora_negative :
    (after [0x09#8, 0x80#8] { start with a := 0x01#8 }).map (fun t => (t.pc, packP true t.flags, t.cycles, t.a)) =
      some (0x0202#16, 0xB0#8, -1, 0x81#8) := by decide

/-- 95_test_vectors.md: "EOR self-cancel (R188)". -/
theorem test_eor_self_cancel :
    (after [0x49#8, 0xFF#8] { start with a := 0xFF#8 }).map (fun t => (t.pc, packP true t.flags, t.cycles, t.a)) =
      some (0x0202#16, 0x32#8, -1, 0x00#8) := by decide

/-- 95_test_vectors.md: "CMP 0x00 vs 0x80: C=0, N=1". -/
theorem test_cmp_0x00_vs_0x80_c_0_n_1 :
    (after [0xC9#8, 0x80#8] { start with a := 0x00#8 }).map (fun t => (t.pc, packP true t.flags, t.cycles)) =
      some (0x0202#16, 0xB0#8, -1) := by decide

/-- 95_test_vectors.md: "CMP equal (R189)". -/
theorem test_cmp_equal :
    (after [0xC9#8, 0x42#8] { start with a := 0x42#8 }).map (fun t => (t.pc, packP true t.flags, t.cycles)) =
      some (0x0202#16, 0x33#8, -1) := by decide

/-- 95_test_vectors.md: "CPX imm (R190)". -/
theorem test_cpx_imm :
    (after [0xE0#8, 0x10#8] { start with x := 0x20#8 }).map (fun t => (t.pc, packP true t.flags, t.cycles)) =
      some (0x0202#16, 0x31#8, -1) := by decide

/-- 95_test_vectors.md: "CPY zp (R191)". -/
theorem test_cpy_zp :
    (after [0xC4#8, 0x10#8] (withBytes [(0x0010#16, 0x00#8)] { start with y := 0x00#8 })).map (fun t => (t.pc, packP true t.flags, t.cycles)) =
      some (0x0202#16, 0x33#8, -2) := by decide

/-- 95_test_vectors.md: "BIT zp sets N,V from memory, Z from AND (R192)". -/
theorem test_bit_zp_sets_n_v_from_memory_z_from_and :
    (after [0x24#8, 0x10#8] (withBytes [(0x0010#16, 0xC0#8)] { start with a := 0x01#8 })).map (fun t => (t.pc, packP true t.flags, t.cycles)) =
      some (0x0202#16, 0xF2#8, -2) := by decide

/-- 95_test_vectors.md: "BIT abs, nonzero AND". -/
theorem test_bit_abs_nonzero_and :
    (after [0x2C#8, 0x00#8, 0x30#8] (withBytes [(0x3000#16, 0x01#8)] { start with a := 0x41#8, flags := { Flags.zero with n := true, v := true, z := true } })).map (fun t => (t.pc, packP true t.flags, t.cycles)) =
      some (0x0203#16, 0x30#8, -3) := by decide

/-- 95_test_vectors.md: "RMW zp (R137), INC". -/
theorem test_inc_rmw_zp_inc :
    (after [0xE6#8, 0x10#8] (withBytes [(0x0010#16, 0xFF#8)] start)).map (fun t => (t.pc, packP true t.flags, t.cycles, t.peek 0x0010#16)) =
      some (0x0202#16, 0x32#8, -4, 0x00#8) := by decide

/-- 95_test_vectors.md: "RMW abs,X always 7 (R137), INC". -/
theorem test_inc_rmw_abs_x_always_7_inc :
    (after [0xFE#8, 0x00#8, 0x12#8] (withBytes [(0x1201#16, 0x7F#8)] { start with x := 0x01#8 })).map (fun t => (t.pc, packP true t.flags, t.cycles, t.peek 0x1201#16)) =
      some (0x0203#16, 0xB0#8, -6, 0x80#8) := by decide

/-- 95_test_vectors.md: "DEC 0x00 to 0xFF (R194)". -/
theorem test_dec_0x00_to_0xff :
    (after [0xC6#8, 0x10#8] (withBytes [(0x0010#16, 0x00#8)] start)).map (fun t => (t.pc, packP true t.flags, t.cycles, t.peek 0x0010#16)) =
      some (0x0202#16, 0xB0#8, -4, 0xFF#8) := by decide

/-- 95_test_vectors.md: "DEC abs,X (R194)". -/
theorem test_dec_abs_x :
    (after [0xDE#8, 0x00#8, 0x20#8] (withBytes [(0x2002#16, 0x01#8)] { start with x := 0x02#8 })).map (fun t => (t.pc, packP true t.flags, t.cycles, t.peek 0x2002#16)) =
      some (0x0203#16, 0x32#8, -6, 0x00#8) := by decide

/-- 95_test_vectors.md: "INX wraps (R195)". -/
theorem test_inx_wraps :
    (after [0xE8#8] { start with x := 0xFF#8 }).map (fun t => (t.pc, packP true t.flags, t.cycles, t.x)) =
      some (0x0201#16, 0x32#8, -1, 0x00#8) := by decide

/-- 95_test_vectors.md: "INY to negative (R196)". -/
theorem test_iny_to_negative :
    (after [0xC8#8] { start with y := 0x7F#8 }).map (fun t => (t.pc, packP true t.flags, t.cycles, t.y)) =
      some (0x0201#16, 0xB0#8, -1, 0x80#8) := by decide

/-- 95_test_vectors.md: "DEX to zero (R197)". -/
theorem test_dex_to_zero :
    (after [0xCA#8] { start with x := 0x01#8 }).map (fun t => (t.pc, packP true t.flags, t.cycles, t.x)) =
      some (0x0201#16, 0x32#8, -1, 0x00#8) := by decide

/-- 95_test_vectors.md: "DEY wraps (R198)". -/
theorem test_dey_wraps :
    (after [0x88#8] { start with y := 0x00#8 }).map (fun t => (t.pc, packP true t.flags, t.cycles, t.y)) =
      some (0x0201#16, 0xB0#8, -1, 0xFF#8) := by decide

/-- 95_test_vectors.md: "ASL zp carry out (R199)". -/
theorem test_asl_zp_carry_out :
    (after [0x06#8, 0x10#8] (withBytes [(0x0010#16, 0x80#8)] start)).map (fun t => (t.pc, packP true t.flags, t.cycles, t.peek 0x0010#16)) =
      some (0x0202#16, 0x33#8, -4, 0x00#8) := by decide

/-- 95_test_vectors.md: "accumulator (R125), ASL A". -/
theorem test_asl_accumulator_asl_a :
    (after [0x0A#8] { start with a := 0x81#8 }).map (fun t => (t.pc, packP true t.flags, t.cycles, t.a)) =
      some (0x0201#16, 0x31#8, -1, 0x02#8) := by decide

/-- 95_test_vectors.md: "LSR A to zero (R200)". -/
theorem test_lsr_a_to_zero :
    (after [0x4A#8] { start with a := 0x01#8 }).map (fun t => (t.pc, packP true t.flags, t.cycles, t.a)) =
      some (0x0201#16, 0x33#8, -1, 0x00#8) := by decide

/-- 95_test_vectors.md: "ROL A carry in and out (R201)". -/
theorem test_rol_a_carry_in_and_out :
    (after [0x2A#8] { start with a := 0x80#8, flags := { Flags.zero with c := true } }).map (fun t => (t.pc, packP true t.flags, t.cycles, t.a)) =
      some (0x0201#16, 0x31#8, -1, 0x01#8) := by decide

/-- 95_test_vectors.md: "ROL zp,X (R201)". -/
theorem test_rol_zp_x :
    (after [0x36#8, 0x10#8] (withBytes [(0x0011#16, 0x40#8)] { start with x := 0x01#8 })).map (fun t => (t.pc, packP true t.flags, t.cycles, t.peek 0x0011#16)) =
      some (0x0202#16, 0xB0#8, -5, 0x80#8) := by decide

/-- 95_test_vectors.md: "ROR A carry into bit 7 (R202)". -/
theorem test_ror_a_carry_into_bit_7 :
    (after [0x6A#8] { start with a := 0x00#8, flags := { Flags.zero with c := true } }).map (fun t => (t.pc, packP true t.flags, t.cycles, t.a)) =
      some (0x0201#16, 0xB0#8, -1, 0x80#8) := by decide

/-- 95_test_vectors.md: "ROR abs (R202)". -/
theorem test_ror_abs :
    (after [0x6E#8, 0x00#8, 0x30#8] (withBytes [(0x3000#16, 0x01#8)] start)).map (fun t => (t.pc, packP true t.flags, t.cycles, t.peek 0x3000#16)) =
      some (0x0203#16, 0x33#8, -5, 0x00#8) := by decide

/-- 95_test_vectors.md: "JSR from Reset state (R220), S=00 wraps". -/
theorem test_jsr_from_reset_state_s_00_wraps :
    (after [0x20#8, 0x34#8, 0x12#8] { start with pc := 0xFFFC#16 }).map (fun t => (t.pc, packP true t.flags, t.cycles, t.s, [t.peek 0x0100#16, t.peek 0x01FF#16])) =
      some (0x1234#16, 0x30#8, -5, 0xFE#8, [0xFF#8, 0xFE#8]) := by decide

/-- 95_test_vectors.md: "JMP abs (R221)". -/
theorem test_jmp_abs :
    (after [0x4C#8, 0x00#8, 0x30#8] start).map (fun t => (t.pc, packP true t.flags, t.cycles)) =
      some (0x3000#16, 0x30#8, -2) := by decide

/-- 95_test_vectors.md: "JMP (ind) (R221)". -/
theorem test_jmp_ind :
    (after [0x6C#8, 0x00#8, 0x03#8] (withBytes [(0x0300#16, 0x34#8), (0x0301#16, 0x12#8)] start)).map (fun t => (t.pc, packP true t.flags, t.cycles)) =
      some (0x1234#16, 0x30#8, -4) := by decide

/-- 95_test_vectors.md: "JMP (ind) page bug, pointer 0x12FF (R135, D16)". -/
theorem test_jmp_ind_page_bug_pointer_0x12ff :
    (after [0x6C#8, 0xFF#8, 0x12#8] (withBytes [(0x1200#16, 0x40#8), (0x12FF#16, 0x00#8), (0x1300#16, 0x50#8)] start)).map (fun t => (t.pc, packP true t.flags, t.cycles)) =
      some (0x4000#16, 0x30#8, -4) := by decide

/-- 95_test_vectors.md: "RTS (R222)". -/
theorem test_rts :
    (after [0x60#8] (withBytes [(0x01FE#16, 0x02#8), (0x01FF#16, 0x30#8)] { start with s := 0xFD#8 })).map (fun t => (t.pc, packP true t.flags, t.cycles, t.s)) =
      some (0x3003#16, 0x30#8, -5, 0xFF#8) := by decide

/-- 95_test_vectors.md: "RTS pulls across S wrap". -/
theorem test_rts_pulls_across_s_wrap :
    (after [0x60#8] (withBytes [(0x0100#16, 0xFF#8), (0x0101#16, 0x0F#8)] { start with s := 0xFF#8 })).map (fun t => (t.pc, packP true t.flags, t.cycles, t.s)) =
      some (0x1000#16, 0x30#8, -5, 0x01#8) := by decide

/-- 95_test_vectors.md: "BPL taken offset 0 (R224)". -/
theorem test_bpl_taken_offset_0 :
    (after [0x10#8, 0x00#8] start).map (fun t => (t.pc, packP true t.flags, t.cycles)) =
      some (0x0202#16, 0x30#8, -2) := by decide

/-- 95_test_vectors.md: "BMI not taken (R225)". -/
theorem test_bmi_not_taken :
    (after [0x30#8, 0x05#8] start).map (fun t => (t.pc, packP true t.flags, t.cycles)) =
      some (0x0202#16, 0x30#8, -1) := by decide

/-- 95_test_vectors.md: "BVC taken (R226)". -/
theorem test_bvc_taken :
    (after [0x50#8, 0x02#8] start).map (fun t => (t.pc, packP true t.flags, t.cycles)) =
      some (0x0204#16, 0x30#8, -2) := by decide

/-- 95_test_vectors.md: "BVS taken to itself, FE (R227)". -/
theorem test_bvs_taken_to_itself_fe :
    (after [0x70#8, 0xFE#8] { start with flags := { Flags.zero with v := true } }).map (fun t => (t.pc, packP true t.flags, t.cycles)) =
      some (0x0200#16, 0x70#8, -2) := by decide

/-- 95_test_vectors.md: "BCC taken, page cross backward (R228)". -/
theorem test_bcc_taken_page_cross_backward :
    (after [0x90#8, 0x80#8] { start with pc := 0x0210#16 }).map (fun t => (t.pc, packP true t.flags, t.cycles)) =
      some (0x0192#16, 0x30#8, -3) := by decide

/-- 95_test_vectors.md: "BCS taken, page cross forward (R229)". -/
theorem test_bcs_taken_page_cross_forward :
    (after [0xB0#8, 0x7F#8] { start with pc := 0x02F0#16, flags := { Flags.zero with c := true } }).map (fun t => (t.pc, packP true t.flags, t.cycles)) =
      some (0x0371#16, 0x31#8, -3) := by decide

/-- 95_test_vectors.md: "BNE taken same page". -/
theorem test_bne_taken_same_page :
    (after [0xD0#8, 0x10#8] start).map (fun t => (t.pc, packP true t.flags, t.cycles)) =
      some (0x0212#16, 0x30#8, -2) := by decide

/-- 95_test_vectors.md: "BNE not taken (R230)". -/
theorem test_bne_not_taken :
    (after [0xD0#8, 0x10#8] { start with flags := { Flags.zero with z := true } }).map (fun t => (t.pc, packP true t.flags, t.cycles)) =
      some (0x0202#16, 0x32#8, -1) := by decide

/-- 95_test_vectors.md: "BEQ taken backward (R231)". -/
theorem test_beq_taken_backward :
    (after [0xF0#8, 0xFC#8] { start with flags := { Flags.zero with z := true } }).map (fun t => (t.pc, packP true t.flags, t.cycles)) =
      some (0x01FE#16, 0x32#8, -3) := by decide

/-- 95_test_vectors.md: "BRK (R232)". -/
theorem test_brk :
    (after [0x00#8, 0xEA#8] (withBytes [(0xFFFE#16, 0x00#8), (0xFFFF#16, 0x90#8)] { start with s := 0xFF#8, flags := { Flags.zero with c := true, d := true } })).map (fun t => (t.pc, packP true t.flags, t.cycles, t.s, [t.peek 0x01FD#16, t.peek 0x01FE#16, t.peek 0x01FF#16])) =
      some (0x9000#16, 0x3D#8, -6, 0xFC#8, [0x39#8, 0x02#8, 0x02#8]) := by decide

/-- 95_test_vectors.md: "RTI (R233)". -/
theorem test_rti :
    (after [0x40#8] (withBytes [(0x01FD#16, 0xFF#8), (0x01FE#16, 0x02#8), (0x01FF#16, 0x03#8)] { start with s := 0xFC#8 })).map (fun t => (t.pc, packP true t.flags, t.cycles, t.s)) =
      some (0x0302#16, 0xFF#8, -5, 0xFF#8) := by decide

/-- 95_test_vectors.md: "NOP (R234)". -/
theorem test_nop :
    (after [0xEA#8] start).map (fun t => (t.pc, packP true t.flags, t.cycles)) =
      some (0x0201#16, 0x30#8, -1) := by decide

/-- 95_test_vectors.md: "PHA at S=00 wraps to FF". -/
theorem test_pha_at_s_00_wraps_to_ff :
    (after [0x48#8] { start with a := 0x01#8, s := 0x00#8 }).map (fun t => (t.pc, packP true t.flags, t.cycles, t.s, t.peek 0x0100#16)) =
      some (0x0201#16, 0x30#8, -2, 0xFF#8, 0x01#8) := by decide

/-- 95_test_vectors.md: "PLA zero (R251)". -/
theorem test_pla_zero :
    (after [0x68#8] (withBytes [(0x01FF#16, 0x00#8)] { start with s := 0xFE#8, a := 0x33#8 })).map (fun t => (t.pc, packP true t.flags, t.cycles, t.a, t.s)) =
      some (0x0201#16, 0x32#8, -3, 0x00#8, 0xFF#8) := by decide

/-- 95_test_vectors.md: "PHP pushes B and bit 5 as 1 (R252)". -/
theorem test_php_pushes_b_and_bit_5_as_1 :
    (after [0x08#8] { start with s := 0xFF#8, flags := { Flags.zero with n := true, c := true } }).map (fun t => (t.pc, packP true t.flags, t.cycles, t.s, t.peek 0x01FF#16)) =
      some (0x0201#16, 0xB1#8, -2, 0xFE#8, 0xB1#8) := by decide

/-- 95_test_vectors.md: "PLP ignores bits 5,4 (R253)". -/
theorem test_plp_ignores_bits_5_4 :
    (after [0x28#8] (withBytes [(0x01FF#16, 0xFF#8)] { start with s := 0xFE#8 })).map (fun t => (t.pc, packP true t.flags, t.cycles, t.s)) =
      some (0x0201#16, 0xFF#8, -3, 0xFF#8) := by decide

/-- 95_test_vectors.md: "TAX zero (R254)". -/
theorem test_tax_zero :
    (after [0xAA#8] { start with a := 0x00#8, x := 0x12#8 }).map (fun t => (t.pc, packP true t.flags, t.cycles, t.x)) =
      some (0x0201#16, 0x32#8, -1, 0x00#8) := by decide

/-- 95_test_vectors.md: "TAY negative (R255)". -/
theorem test_tay_negative :
    (after [0xA8#8] { start with a := 0x80#8 }).map (fun t => (t.pc, packP true t.flags, t.cycles, t.y)) =
      some (0x0201#16, 0xB0#8, -1, 0x80#8) := by decide

/-- 95_test_vectors.md: "TXA (R256)". -/
theorem test_txa :
    (after [0x8A#8] { start with x := 0x01#8, a := 0xFF#8 }).map (fun t => (t.pc, packP true t.flags, t.cycles, t.a)) =
      some (0x0201#16, 0x30#8, -1, 0x01#8) := by decide

/-- 95_test_vectors.md: "TYA (R257)". -/
theorem test_tya :
    (after [0x98#8] { start with y := 0x00#8, a := 0x01#8 }).map (fun t => (t.pc, packP true t.flags, t.cycles, t.a)) =
      some (0x0201#16, 0x32#8, -1, 0x00#8) := by decide

/-- 95_test_vectors.md: "TSX after Reset, S=00 (R258)". -/
theorem test_tsx_after_reset_s_00 :
    (after [0xBA#8] start).map (fun t => (t.pc, packP true t.flags, t.cycles)) =
      some (0x0201#16, 0x32#8, -1) := by decide

/-- 95_test_vectors.md: "TXS no flags (R259)". -/
theorem test_txs_no_flags :
    (after [0x9A#8] { start with x := 0x00#8, flags := { Flags.zero with n := true } }).map (fun t => (t.pc, packP true t.flags, t.cycles)) =
      some (0x0201#16, 0xB0#8, -1) := by decide

/-- 95_test_vectors.md: "CLC (R260)". -/
theorem test_clc :
    (after [0x18#8] { start with flags := { Flags.zero with c := true } }).map (fun t => (t.pc, packP true t.flags, t.cycles)) =
      some (0x0201#16, 0x30#8, -1) := by decide

/-- 95_test_vectors.md: "SEC (R261)". -/
theorem test_sec :
    (after [0x38#8] start).map (fun t => (t.pc, packP true t.flags, t.cycles)) =
      some (0x0201#16, 0x31#8, -1) := by decide

/-- 95_test_vectors.md: "CLI (R262)". -/
theorem test_cli :
    (after [0x58#8] { start with flags := { Flags.zero with i := true } }).map (fun t => (t.pc, packP true t.flags, t.cycles)) =
      some (0x0201#16, 0x30#8, -1) := by decide

/-- 95_test_vectors.md: "SEI (R263)". -/
theorem test_sei :
    (after [0x78#8] start).map (fun t => (t.pc, packP true t.flags, t.cycles)) =
      some (0x0201#16, 0x34#8, -1) := by decide

/-- 95_test_vectors.md: "CLD (R264)". -/
theorem test_cld :
    (after [0xD8#8] { start with flags := { Flags.zero with d := true } }).map (fun t => (t.pc, packP true t.flags, t.cycles)) =
      some (0x0201#16, 0x30#8, -1) := by decide

/-- 95_test_vectors.md: "SED (R265)". -/
theorem test_sed :
    (after [0xF8#8] start).map (fun t => (t.pc, packP true t.flags, t.cycles)) =
      some (0x0201#16, 0x38#8, -1) := by decide

/-- 95_test_vectors.md: "CLV (R266)". -/
theorem test_clv :
    (after [0xB8#8] { start with flags := { Flags.zero with v := true } }).map (fun t => (t.pc, packP true t.flags, t.cycles)) =
      some (0x0201#16, 0x30#8, -1) := by decide

/-! ## Rules beyond one vector -/

/-- 42_alu.md R180, R182 with DECIMAL_MODE = refuse: only D = 1 is refused. -/
def refusing : State := { start with cfg := { profile := .nmos151, decimalMode := .refuse } }

theorem test_decimal_refused :
    ([(Instr.adcImm 0x01#8, true), (.sbcImm 0x01#8, true), (.adcImm 0x01#8, false), (.sbcImm 0x01#8, false)].map
      fun e => refusalOf (exec e.1 { refusing with flags := { Flags.zero with d := e.2 } })) =
    [some .decimalRefused, some .decimalRefused, none, none] := by decide

/-- 60_exceptions.md R305: the unknown opcode is reported though its fetch brings the counter to 0. -/
theorem test_unknown_opcode : faultOf (step (program [0x02#8] start)) =
    some (.unknownOpcode 0x02#8 0x0200#16) := by decide

theorem test_budget_exhausted : faultOf (step State.reset) = some .budgetExhausted := by decide

theorem test_not_reset : refusalOf (step (State.constructed Config.default start)) = some .notReset := by decide

/-- 70_reset_and_hazards.md R331, D19: a memory read before Reset gives 0. -/
theorem test_memory_before_reset : (State.constructed Config.default start).hostRead (-1) = 0x00#8 := by decide

/-- 40_engine.md R110, R111, by 95_test_vectors.md L2.8: budget 3 with two LDA immediate consumes 4. -/
theorem test_execute_overrun :
    (match execute 3 (program [0xA9#8, 0x01#8, 0xA9#8, 0x02#8] start) with
      | some (.returned consumed outcome final) => some (consumed, outcome, final.a, final.pc)
      | _ => none) = some (4, .budgetExhausted, 0x02#8, 0x0204#16) := by decide

/-- L2.8: LDA immediate, then an unknown opcode. -/
theorem test_execute_unknown :
    (match execute 10 (program [0xA9#8, 0x42#8, 0x02#8] start) with
      | some (.returned consumed outcome final) => some (consumed, outcome, final.a, final.pc)
      | _ => none) = some (3, .unknownOpcode 0x02#8 0x0202#16, 0x42#8, 0x0203#16) := by decide

/-! ## Witnesses: states and operands that meet the hypotheses of each statement together -/

theorem test_witness_DecodeOfEncode :
    Instr.wf .doc4 (.jsr 0xFFFF#16) = true ∧ Instr.wf .nmos151 (.rorAbsX 0x0000#16) = true := by decide

theorem test_witness_EncodeOfDecode :
    decode .nmos151 [0xEA#8] = .ok (.nop, []) ∧ decode .nmos151 [0xF0#8, 0xFF#8, 0x00#8] = .ok (.beq 0xFF#8, [0x00#8]) ∧
    decode .doc4 [0x20#8, 0xFF#8, 0x00#8] = .ok (.jsr 0x00FF#16, []) := by
  refine ⟨?_, ?_, ?_⟩ <;> decide

theorem test_witness_UndecodedBytes :
    let st := program [0xFF#8] start
    st.cfg.profile = .nmos151 ∧ st.resetDone = true ∧ 0 < st.cycles ∧ (st.peek st.pc).toNat ∈ undecoded := by
  decide

theorem test_witness_ResetMeetsTheInvariant : (-6 : Int) ≤ ({ start with cycles := -6 } : State).cycles := by decide

/-- BRK at the last cycle of a budget reaches the deepest overrun. -/
theorem test_witness_EveryStep : ∃ t, State.Inv start ∧ step start = .next t ∧ t.cycles = -6 :=
  ⟨_, ⟨by decide, rfl, rfl, by decide⟩, rfl, by decide⟩

theorem test_witness_StepRuns :
    let st := { program [0x6C#8, 0xFF#8, 0x12#8] start with cycles := 1 }
    st.resetDone = true ∧ 0 < st.cycles ∧
    decode st.cfg.profile [st.peek st.pc, st.peek (st.pc + 1), st.peek (st.pc + 2)] = .ok (.jmpInd 0x12FF#16, []) := by
  decide

theorem test_witness_StepChecks_not_reset : ({ start with resetDone := false } : State).resetDone = false := rfl

theorem test_witness_StepChecks_budget :
    ({ start with cycles := 0 } : State).resetDone = true ∧ ({ start with cycles := 0 } : State).cycles ≤ 0 := by
  decide

theorem test_witness_StepChecks_unknown :
    let st := program [0x89#8] start
    st.resetDone = true ∧ 0 < st.cycles ∧
    ∀ i rest, decode st.cfg.profile [st.peek st.pc, st.peek (st.pc + 1), st.peek (st.pc + 2)] ≠ .ok (i, rest) :=
  ⟨rfl, by decide, fun i rest h => by cases h⟩

/-- Both ways the last check can end: it goes on, or it is refused. -/
theorem test_witness_StepChecks_handler :
    (let st := program [0x69#8, 0x01#8] start
     decode st.cfg.profile [st.peek st.pc, st.peek (st.pc + 1), st.peek (st.pc + 2)] =
        .ok (.adcImm 0x01#8, [0x00#8]) ∧ (nextOf (step st)).isSome = true) ∧
    (let st := program [0x69#8, 0x01#8] { refusing with flags := { Flags.zero with d := true } }
     decode st.cfg.profile [st.peek st.pc, st.peek (st.pc + 1), st.peek (st.pc + 2)] =
        .ok (.adcImm 0x01#8, [0x00#8]) ∧ refusalOf (step st) = some .decimalRefused) := by
  refine ⟨⟨?_, ?_⟩, ?_, ?_⟩ <;> decide

theorem test_witness_HandlersComplete :
    ((Instr.adcImm 0x01#8).mnemonic = .ADC ∨ (Instr.adcImm 0x01#8).mnemonic = .SBC) ∧
    ({ refusing with flags := { Flags.zero with d := true } } : State).flags.d = true ∧
    refusing.cfg.decimalMode = .refuse ∧
    ¬ ((Instr.nop.mnemonic = .ADC ∨ Instr.nop.mnemonic = .SBC) ∧ start.flags.d = true ∧
      start.cfg.decimalMode = .refuse) := by
  decide

theorem test_witness_ResetNmosRuns : ∃ t, start.resetDone = true ∧ start.cfg.decimalMode = .nmos ∧
    step start = .next t ∧ Reaches start t :=
  ⟨_, rfl, rfl, rfl, .tail (.refl _) rfl⟩

theorem test_witness_StepsKeep : ∃ t, step start = .next t := ⟨_, rfl⟩

theorem test_witness_ExecuteReturns : start.resetDone = true := rfl

/-- The first call does not overrun: LDA immediate under budget 2. -/
theorem test_witness_ExecuteOfTwoBudgets :
    ∃ mid, execute 2 (program [0xA9#8, 0x01#8] start) = some (.returned (2 : Nat) .budgetExhausted mid) := ⟨_, rfl⟩

theorem test_witness_BudgetOne : start.resetDone = true ∧ ∃ t, step { start with cycles := 1 } = .next t :=
  ⟨rfl, _, rfl⟩

theorem test_witness_UnknownOpcodeLeaves :
    let st := program [0x02#8] start
    st.resetDone = true ∧ 0 < 1 ∧
    ∀ i rest, decode st.cfg.profile [st.peek st.pc, st.peek (st.pc + 1), st.peek (st.pc + 2)] ≠ .ok (i, rest) :=
  ⟨rfl, by decide, fun i rest h => by cases h⟩

theorem test_witness_ExecuteBeforeReset : (State.constructed Config.default start).resetDone = false := rfl

/-- Both ends of the range: NOP takes 2, BRK takes 7. -/
theorem test_witness_TwoToSeven :
    (nextOf (exec .nop start)).map (fun t => (start.cycles + 1) - t.cycles) = some 2 ∧
    (nextOf (exec .brk start)).map (fun t => (start.cycles + 1) - t.cycles) = some 7 := by decide

/-- The clauses of the host's memory operations at the top of memory: 0xFFFF, its successor 0, and an address
that no clause names. -/
theorem test_witness_HostMemory : Memory.wf start.mem = true ∧
    (start.hostWriteWord 0xFFFF 0x1234#16).hostRead 0xFFFF = 0x34#8 ∧
    (start.hostWriteWord 0xFFFF 0x1234#16).hostRead 0x10000 = 0x12#8 ∧
    (start.hostWriteWord 0xFFFF 0x1234#16).hostRead 1 = 0x00#8 ∧
    (start.hostWrite (-1) 0x56#8).hostRead 0xFFFF = 0x56#8 := by decide

theorem test_witness_CanonicalMemories :
    Memory.wf (program [0x01#8] start).mem = true ∧
    ∀ a : Word, Memory.read (program [0x01#8] start).mem a.toNat = Memory.read (program [0x01#8] start).mem a.toNat :=
  ⟨by decide, fun _ => rfl⟩

/-- STA writes no register and no flag, and does not redirect PC; LDA writes no memory: each clause's premise. -/
theorem test_witness_WholeMachine :
    (∃ t, exec (.staZp 0xFF#8) start = .next t) ∧
    (Instr.staZp 0xFF#8).mnemonic ∉ [Mnemonic.LDA, .PLA, .TXA, .TYA, .AND, .ORA, .EOR, .ADC, .SBC] ∧
    ¬ ((Instr.staZp 0xFF#8).mnemonic ∈ shifts ∧ (Instr.staZp 0xFF#8).mode = .acc) ∧
    (Instr.staZp 0xFF#8).mnemonic ∉ [Mnemonic.LDX, .TAX, .TSX, .INX, .DEX, .LDY, .TAY, .INY, .DEY, .JSR, .RTS, .BRK,
      .RTI, .PHA, .PLA, .PHP, .PLP, .TXS, .JMP, .BPL, .BMI, .BVC, .BVS, .BCC, .BCS, .BNE, .BEQ] ∧
    (Instr.staZp 0xFF#8).mnemonic ∉ [Mnemonic.CMP, .CPX, .CPY, .ASL, .LSR, .ROL, .ROR, .CLC, .SEC, .CLI, .SEI, .CLD,
      .SED, .CLV, .BIT, .INC, .DEC] ∧
    (∃ t, exec (.rorAcc) start = .next t) ∧
    ¬ (Instr.rorAcc.mnemonic ∈ shifts ∧ Instr.rorAcc.mode ≠ .acc) ∧
    Instr.rorAcc.mnemonic ∉ [Mnemonic.STA, .STX, .STY, .INC, .DEC, .JSR, .BRK, .PHA, .PHP] := by
  refine ⟨⟨_, rfl⟩, by decide, by decide, by decide, by decide, ⟨_, rfl⟩, by decide, by decide⟩

/-- The pages next to page 1, with S at both ends of the page. -/
theorem test_witness_PushesStay :
    Instr.brk.mnemonic ∈ [Mnemonic.JSR, .BRK, .PHA, .PHP] ∧ Memory.wf start.mem = true ∧
    (∃ t, exec .brk { start with s := 0x00#8 } = .next t) ∧ page 0x00FF#16 ≠ 1 ∧ page 0x0200#16 ≠ 1 :=
  ⟨by decide, by decide, ⟨_, rfl⟩, by decide, by decide⟩

theorem test_witness_loads :
    (Instr.ldaIndY 0xFF#8).mnemonic = .LDA ∧ (Instr.ldxZpY 0xFF#8).mnemonic = .LDX ∧
    (Instr.ldyAbsX 0xFFFF#16).mnemonic = .LDY := by decide

/-- A store at the wrap of page 0, and a byte it leaves. -/
theorem test_witness_Stores :
    (Instr.stxZpY 0xFF#8).mode = .mem (.zpY 0xFF#8) ∧ (Instr.stxZpY 0xFF#8).mnemonic = .STX ∧
    Memory.wf start.mem = true ∧
    effAddr { start with y := 0x02#8 } (.zpY 0xFF#8) = 0x0001#16 ∧
    effAddr { start with y := 0x02#8 } (.zpY 0xFF#8) ≠ 0x0101#16 := by decide

/-- Binary, decimal and refused: each clause of ADC and SBC. -/
theorem test_witness_Arithmetic :
    (Instr.adcAbsX 0xFFFF#16).mnemonic = .ADC ∧ (Instr.sbcIndX 0xFF#8).mnemonic = .SBC ∧ start.flags.d = false ∧
    ({ start with flags := { Flags.zero with d := true } } : State).flags.d = true ∧
    start.cfg.decimalMode = .nmos ∧ refusing.cfg.decimalMode = .refuse := by decide

/-- The largest two-digit operands: 99 + 99 with carry in. -/
theorem test_witness_Decimal :
    let st := { start with a := 0x99#8, flags := { Flags.zero with d := true, c := true } }
    st.flags.d = true ∧ st.cfg.decimalMode = .nmos ∧ validBcd st.a = true ∧
    validBcd (operandValue st (Instr.adcImm 0x99#8).mode) = true ∧
    (Instr.adcImm 0x99#8).mnemonic = .ADC ∧ (Instr.sbcImm 0x99#8).mnemonic = .SBC := by decide

theorem test_witness_logic_compare_bit :
    (Instr.andImm 0x0F#8).mnemonic = .AND ∧ (Instr.oraAbsY 0x1234#16).mnemonic = .ORA ∧
    (Instr.eorZpX 0xFF#8).mnemonic = .EOR ∧ (Instr.cmpIndX 0xFF#8).mnemonic = .CMP ∧
    (Instr.cpxAbs 0x1234#16).mnemonic = .CPX ∧ (Instr.cpyZp 0x10#8).mnemonic = .CPY ∧
    (Instr.bitAbs 0x1234#16).mnemonic = .BIT := by decide

theorem test_witness_Modify :
    (Instr.incAbsX 0xFFFF#16).mode = .mem (.absX 0xFFFF#16) ∧ (Instr.incAbsX 0xFFFF#16).mnemonic = .INC ∧
    (Instr.decZp 0x10#8).mode = .mem (.zp 0x10#8) ∧ (Instr.decZp 0x10#8).mnemonic = .DEC ∧
    Memory.wf start.mem = true := by decide

theorem test_witness_Shifts :
    Instr.rolAcc.mnemonic ∈ shifts ∧ Instr.rolAcc.mode = .acc ∧ (Instr.lsrZpX 0xFF#8).mnemonic ∈ shifts ∧
    (Instr.lsrZpX 0xFF#8).mode = .mem (.zpX 0xFF#8) ∧ Memory.wf start.mem = true := by decide

theorem test_witness_Branches :
    (Instr.bne 0x80#8).mode = .rel 0x80#8 ∧ branchTaken .BNE start.flags = true ∧
    branchTaken .BEQ start.flags = false := by decide

/-- The stack statements' premise, and the addresses their clauses name, distinct at the wrap of S. -/
theorem test_witness_Stack : Memory.wf start.mem = true ∧
    page1 0x00#8 = 0x0100#16 ∧ page1 (0x00#8 - 1) = 0x01FF#16 ∧ page1 (0x00#8 - 2) = 0x01FE#16 := by decide

theorem test_witness_SbcIsAdc : start.flags.d = false := rfl

end Sys2Proof.Tests
end

section
/-! SUPPORT. Selecting a profile commutes with every operation of the machine: no meaning reads PROFILE
(00_scope.md R2, 30_encoding.md R85, 40_engine.md R113). -/

namespace Sys2Proof.Machine

/-- The same machine under another profile. -/
def State.withProfile (p : Profile) (st : State) : State := { st with cfg := { st.cfg with profile := p } }

variable (p : Profile) (st : State)

/-! ## Reading an operand: the mode's address, its cycles, the value -/

theorem resolve_withProfile_fst (m : AddrMode) (k : Access) :
    (resolve m k (st.withProfile p)).1 = (resolve m k st).1 := by
  cases m <;> rfl

theorem resolveCost_withProfile (m : AddrMode) (k : Access) :
    resolveCost m k (st.withProfile p) = resolveCost m k st := by
  cases m <;> rfl

theorem loadMem_withProfile (m : AddrMode) :
    loadMem m (st.withProfile p) = ((loadMem m st).1, (loadMem m st).2.withProfile p) := by
  rw [loadMem_eq, loadMem_eq, resolve_withProfile_fst, resolveCost_withProfile]; rfl

theorem readOf_withProfile (m : Mode) :
    readOf m (st.withProfile p) = ((readOf m st).1, (readOf m st).2.withProfile p) := by
  cases m with
  | mem m => exact loadMem_withProfile p st m
  | _ => rfl

/-! ## The meanings that decide something: decimal arithmetic and branches -/

/-- ADC reads D, C, A and DECIMAL_MODE of the configuration (42_alu.md R180), never PROFILE. -/
theorem addWithCarry_withProfile (r : Byte × State) :
    addWithCarry (r.1, r.2.withProfile p) = Statements.mapNext (State.withProfile p) (addWithCarry r) := by
  cases hd : r.2.flags.d with
  | false => simp [addWithCarry, State.withProfile, Statements.mapNext, hd]
  | true =>
    cases hm : r.2.cfg.decimalMode <;> simp [addWithCarry, State.withProfile, Statements.mapNext, hd, hm]

/-- SBC likewise (R182). -/
theorem subWithBorrow_withProfile (r : Byte × State) :
    subWithBorrow (r.1, r.2.withProfile p) = Statements.mapNext (State.withProfile p) (subWithBorrow r) := by
  cases hd : r.2.flags.d with
  | false => simp [subWithBorrow, State.withProfile, Statements.mapNext, hd]
  | true =>
    cases hm : r.2.cfg.decimalMode <;> simp [subWithBorrow, State.withProfile, Statements.mapNext, hd, hm]

/-- A branch taken, on top of its opcode fetch: two cycles in the page of the next instruction, three to another
page (40_engine.md R136). -/
theorem branchIf_taken (off : Byte) : branchIf true off st =
    { st with
      pc := st.pc + 1#16 + sext off
      cycles := st.cycles - (if hi8 (st.pc + 1#16 + sext off) = hi8 (st.pc + 1#16) then 2 else 3) } := by
  by_cases hp : hi8 (st.pc + 1#16 + sext off) = hi8 (st.pc + 1#16)
  · simp [branchIf, hp, Int.sub_sub]
  · simp [branchIf, hp, Int.sub_sub]

/-- A branch's target and cycles come from the flag, the offset and PC (40_engine.md R136). -/
theorem branchIf_withProfile (cond : Bool) (off : Byte) :
    branchIf cond off (st.withProfile p) = (branchIf cond off st).withProfile p := by
  cases cond with
  | false => rfl
  | true =>
    rw [branchIf_taken, branchIf_taken]
    rfl

/-! ## Every instruction -/

/-- The instructions that read an operand: what follows the read is a function of the operand and of a state,
which the profile does not enter. -/
theorem exec_withProfile_of_reader {i : Instr} (h : readsOperand i.mnemonic = true) :
    exec i (st.withProfile p) = Statements.mapNext (State.withProfile p) (exec i st) := by
  cases hm : i.mnemonic
  case ADC =>
    rw [exec_ADC _ hm, exec_ADC _ hm, readOf_withProfile, addWithCarry_withProfile]
  case SBC =>
    rw [exec_SBC _ hm, exec_SBC _ hm, readOf_withProfile, subWithBorrow_withProfile]
  case LDA | LDX | LDY | AND | ORA | EOR | CMP | CPX | CPY | BIT =>
    simp only [exec_LDA, exec_LDX, exec_LDY, exec_AND, exec_ORA, exec_EOR, exec_CMP, exec_CPX, exec_CPY, exec_BIT,
      hm, readOf_withProfile]
    rfl
  all_goals rw [hm] at h; cases h

/-- Every instruction. A page crossed by an indexed read, D in ADC and SBC, and a branch's condition are all
that a meaning decides on the way (40_engine.md R131, R136, 42_alu.md R180, R182); the other instructions go
one way whatever the state, so that running them shows it. -/
theorem exec_withProfile (i : Instr) :
    exec i (st.withProfile p) = Statements.mapNext (State.withProfile p) (exec i st) := by
  cases i
  case ldaIndY | ldaAbsY | ldaAbsX | ldxAbsY | ldyAbsX | andIndY | andAbsY | andAbsX | oraIndY | oraAbsY | oraAbsX |
      eorIndY | eorAbsY | eorAbsX | cmpIndY | cmpAbsY | cmpAbsX =>
    exact exec_withProfile_of_reader p st rfl
  case adcIndX | adcZp | adcImm | adcAbs | adcIndY | adcZpX | adcAbsY | adcAbsX |
      sbcIndX | sbcZp | sbcImm | sbcAbs | sbcIndY | sbcZpX | sbcAbsY | sbcAbsX =>
    exact exec_withProfile_of_reader p st rfl
  case bpl | bmi | bvc | bvs | bcc | bcs | bne | beq =>
    exact congrArg Host.Outcome.next (branchIf_withProfile p st _ _)
  all_goals rfl

/-- Settles O6: selecting a profile commutes with the handler of every instruction. -/
theorem profileChangesNoMeaning : Obligations.ProfileChangesNoMeaning :=
  fun i st p => exec_withProfile p st i

end Sys2Proof.Machine
end

section
/-! SUPPORT. The layout of the status byte (10_state.md R37) and the state Reset leaves (R40). -/

namespace Sys2Proof.Machine

open Sys2Proof.Statements

/-- A bit of a word on numbers. -/
theorem getLsbD_eq_decide {w : Nat} (p : BitVec w) (k : Nat) :
    p.getLsbD k = decide (p.toNat / 2 ^ k % 2 = 1) :=
  Nat.testBit_eq_decide_div_mod_eq

theorem unpackP_eq_fromStatusByte (p : Byte) (f : Flags) : unpackP p f = fromStatusByte p f := by
  simp only [unpackP, fromStatusByte, getLsbD_eq_decide]
  norm_num

/-- Each flag is at its own bit, so packing and unpacking lose none of them; the stored B is not among the bits. -/
theorem unpackP_packP (b4 : Bool) (f g : Flags) : unpackP (packP b4 f) g = { f with b := g.b } := by
  simp only [unpackP, packP, BitVec.getLsbD_append]
  simp

/-- The status byte by weights, whatever its bit 4. -/
theorem packP_toNat (b4 : Bool) (f : Flags) : (packP b4 f).toNat =
    128 * f.n.toNat + 64 * f.v.toNat + 32 + 16 * b4.toNat + 8 * f.d.toNat + 4 * f.i.toNat + 2 * f.z.toNat +
      f.c.toNat := by
  obtain ⟨c, z, i, d, b, v, n⟩ := f
  simp only [packP]
  revert c z i d v n b4
  decide

theorem packP_true_eq_statusByte (f : Flags) : packP true f = statusByte f := by
  rw [← BitVec.setWidth_eq (packP true f), ← BitVec.ofNat_toNat, packP_toNat]
  rfl

/-- Settles O57: both directions on numbers, and their round trip. -/
theorem statusByteLayout : Obligations.StatusByteLayout := by
  refine ⟨fun f => ⟨packP_true_eq_statusByte f, ?_⟩, unpackP_eq_fromStatusByte, unpackP_packP⟩
  rw [← packP_true_eq_statusByte, packP_toNat, packP_toNat, Bool.toNat_false, Bool.toNat_true]
  omega

/-- Settles O8: Reset gives every field the invariant speaks of its value, and leaves the counter. -/
theorem resetMeetsTheInvariant : Obligations.ResetMeetsTheInvariant :=
  ⟨rfl, ⟨Memory.wf_nil, rfl, rfl, by decide⟩, fun _ hc => ⟨Memory.wf_nil, rfl, rfl, hc⟩⟩

end Sys2Proof.Machine
end

section
/-! SUPPORT. What an instruction may change, for all 151 in one statement: the parts of the state its rules let it
write (10_state.md R21 to R36, 20_memory.md R56), memory's canonical form, and the cycles (40_engine.md R123). -/

namespace Sys2Proof.Machine

open Sys2Proof.Statements

variable {i : Instr} {st t : State}

/-! ## The kinds of instructions -/

/-- The control transfers, which set PC (10_state.md R26). -/
def controlTransfers : List Mnemonic :=
  [.JSR, .JMP, .RTS, .BPL, .BMI, .BVC, .BVS, .BCC, .BCS, .BNE, .BEQ, .BRK, .RTI]

/-- The instructions without an operand that go on to the next: INX, INY, DEX, DEY, NOP, and the stack, transfer and
flag instructions. -/
def isImplied : Mnemonic → Bool
  | .INX | .INY | .DEX | .DEY | .NOP | .PHA | .PLA | .PHP | .PLP | .TAX | .TAY | .TXA | .TYA | .TSX | .TXS
  | .CLC | .SEC | .CLI | .SEI | .CLD | .SED | .CLV => true
  | _ => false

theorem kind_of_mnemonic (mn : Mnemonic) :
    readsOperand mn = true ∨ writesAddressed mn = true ∨ isShift mn = true ∨ mn ∈ controlTransfers ∨
      isImplied mn = true := by
  cases mn <;> decide

/-! ## What each instruction may write -/

/-- The instructions that write Z and N (R31, R36). -/
def zeroNegativeWriters : List Mnemonic :=
  [.LDA, .LDX, .LDY, .TAX, .TAY, .TXA, .TYA, .TSX, .PLA, .INX, .INY, .DEX, .DEY, .INC, .DEC,
    .AND, .ORA, .EOR, .ADC, .SBC, .ASL, .LSR, .ROL, .ROR, .CMP, .CPX, .CPY, .BIT, .PLP, .RTI]

/-- The state `st` with the parts that the rules let `i` write taken from `t`, and PC past the operand bytes unless `i`
is a control transfer. The parameters, `reset_done` and the stored B are always those of `st`. -/
def confine (i : Instr) (st t : State) : State :=
  { st with
    a := if i.mnemonic ∉ [.LDA, .PLA, .TXA, .TYA, .AND, .ORA, .EOR, .ADC, .SBC] ∧
      ¬ (i.mnemonic ∈ shifts ∧ i.mode = .acc) then st.a else t.a
    x := if i.mnemonic ∉ [.LDX, .TAX, .TSX, .INX, .DEX] then st.x else t.x
    y := if i.mnemonic ∉ [.LDY, .TAY, .INY, .DEY] then st.y else t.y
    s := if i.mnemonic ∉ [.JSR, .RTS, .BRK, .RTI, .PHA, .PLA, .PHP, .PLP, .TXS] then st.s else t.s
    pc := if i.mnemonic ∉ controlTransfers then st.pc + BitVec.ofNat 16 i.mode.operandBytes else t.pc
    flags :=
      { st.flags with
        c := if i.mnemonic ∉ [.ADC, .SBC, .CMP, .CPX, .CPY, .ASL, .LSR, .ROL, .ROR, .CLC, .SEC, .PLP, .RTI]
          then st.flags.c else t.flags.c
        z := if i.mnemonic ∉ zeroNegativeWriters then st.flags.z else t.flags.z
        i := if i.mnemonic ∉ [.CLI, .SEI, .PLP, .RTI, .BRK] then st.flags.i else t.flags.i
        d := if i.mnemonic ∉ [.CLD, .SED, .PLP, .RTI] then st.flags.d else t.flags.d
        v := if i.mnemonic ∉ [.ADC, .SBC, .BIT, .CLV, .PLP, .RTI] then st.flags.v else t.flags.v
        n := if i.mnemonic ∉ zeroNegativeWriters then st.flags.n else t.flags.n }
    mem := if i.mnemonic ∉ [.STA, .STX, .STY, .INC, .DEC, .JSR, .BRK, .PHA, .PHP] ∧
      ¬ (i.mnemonic ∈ shifts ∧ i.mode ≠ .acc) then st.mem else t.mem
    cycles := t.cycles }

/-- What holds of every instruction `i` run from `st` to `t`. -/
structure Effect (i : Instr) (st t : State) : Prop where
  /-- It writes what the rules let it write, and nothing else. -/
  confined : t = confine i st t
  /-- It keeps memory in canonical form. -/
  mem_wf : Memory.wf st.mem = true → Memory.wf t.mem = true
  /-- On top of the opcode fetch it bills one to six cycles (40_engine.md R123). -/
  billed : 1 ≤ st.cycles - t.cycles ∧ st.cycles - t.cycles ≤ 6

/-- The form in which a meaning's equation gives its cycles, for `Effect.billed`. -/
theorem billed_of_cost (c : Int) {k : Int} (h1 : 1 ≤ k) (h6 : k ≤ 6) : 1 ≤ c - (c - k) ∧ c - (c - k) ≤ 6 := by
  omega

/-! ## Operands -/

theorem indexCost_bounds (base ea : Word) (k : Access) : 0 ≤ indexCost base ea k ∧ indexCost base ea k ≤ 1 := by
  unfold indexCost
  split <;> decide

/-- A mode's own steps bill one to four cycles (40_engine.md R127 to R134). -/
theorem resolveCost_bounds (m : AddrMode) (k : Access) (st : State) :
    1 ≤ resolveCost m k st ∧ resolveCost m k st ≤ 4 := by
  cases m with
  | absX w => have := indexCost_bounds w (w + zext st.x) k; simp only [resolveCost]; omega
  | absY w => have := indexCost_bounds w (w + zext st.y) k; simp only [resolveCost]; omega
  | indY b =>
    have := indexCost_bounds (pointerAt b st) (pointerAt b st + zext st.y) k
    simp only [resolveCost]; omega
  | _ => simp [resolveCost]

/-- No read-modify-write instruction has an indirect mode, whose steps would take longer (42_alu.md R193, R199). -/
theorem resolveCost_rmw_le {m : AddrMode} (hk : i.mnemonic ∈ [.INC, .DEC, .ASL, .LSR, .ROL, .ROR])
    (hm : i.mode = .mem m) (st : State) : resolveCost m .rmw st ≤ 3 := by
  cases i <;> cases hm
  all_goals
    revert hk
    simp [Instr.mnemonic, Instr.form, resolveCost, indexCost]

/-- LoadOperand moves PC past the operand and bills cycles, and does nothing else (40_engine.md R137). -/
theorem readOf_eq {m : Mode} (hm : readable m) (st : State) : ∃ v k, 1 ≤ k ∧ k ≤ 6 ∧
    readOf m st = (v, { st with pc := st.pc + BitVec.ofNat 16 m.operandBytes, cycles := st.cycles - k }) := by
  obtain ⟨v, rfl⟩ | ⟨m, rfl⟩ := hm
  · exact ⟨v, 1, by decide, by decide, rfl⟩
  · obtain ⟨h1, h4⟩ := resolveCost_bounds m .read st
    refine ⟨st.peek (resolve m .read st).1, resolveCost m .read st + 1, by omega, by omega, ?_⟩
    rw [readOf, loadMem_eq, Int.sub_sub]
    rfl

/-- What ADC and SBC, as `addWithCarry_cases` and `subWithBorrow_cases` have it, do when they go on: they write A, C, Z,
V and N. -/
theorem arithmetic_next {r : Byte × State} {o : Host.Outcome State Fault Refusal} {P Q : Prop}
    (hc : (∃ (a : Byte) (fl : Flags), o = .next { r.2 with a := a, flags := fl } ∧
      fl.i = r.2.flags.i ∧ fl.d = r.2.flags.d ∧ fl.b = r.2.flags.b) ∨ (P ∧ Q ∧ o = .refused .decimalRefused))
    (h : o = .next t) :
    ∃ a c z v n, t = { r.2 with a := a, flags := { r.2.flags with c := c, z := z, v := v, n := n } } := by
  obtain ⟨a, fl, ho, hi, hd, hb⟩ | ⟨-, -, ho⟩ := hc
  · cases ho.symm.trans h
    exact ⟨a, fl.c, fl.z, fl.v, fl.n, by simp only [← hi, ← hd, ← hb]⟩
  · cases ho.symm.trans h

/-! ## The effect of each kind -/

theorem effect_of_reader (hk : readsOperand i.mnemonic = true) (h : exec i st = .next t) : Effect i st t := by
  obtain ⟨v, k, h1, h6, hr⟩ := readOf_eq (mode_of_reader hk) st
  have hb := billed_of_cost st.cycles h1 h6
  cases hm : i.mnemonic
  case ADC =>
    rw [exec_ADC _ hm, hr] at h
    obtain ⟨_, _, _, _, _, rfl⟩ := arithmetic_next (addWithCarry_cases _) h
    exact ⟨by simp [confine, hm, controlTransfers, zeroNegativeWriters, shifts], id, hb⟩
  case SBC =>
    rw [exec_SBC _ hm, hr] at h
    obtain ⟨_, _, _, _, _, rfl⟩ := arithmetic_next (subWithBorrow_cases _) h
    exact ⟨by simp [confine, hm, controlTransfers, zeroNegativeWriters, shifts], id, hb⟩
  case LDA | LDX | LDY | AND | ORA | EOR | CMP | CPX | CPY | BIT =>
    simp only [exec_LDA, exec_LDX, exec_LDY, exec_AND, exec_ORA, exec_EOR, exec_CMP, exec_CPX, exec_CPY, exec_BIT,
      hm, hr] at h
    cases h
    exact ⟨by simp [confine, hm, controlTransfers, zeroNegativeWriters, shifts, loadA, loadX, loadY, logicA,
      compareWith, compareFlags, bitTest, bitFlags, setZN], id, hb⟩
  all_goals rw [hm] at hk; cases hk

/-- The stores, INC and DEC. -/
theorem effect_of_writer (hk : writesAddressed i.mnemonic = true) (h : exec i st = .next t) : Effect i st t := by
  obtain ⟨m, hmode⟩ := mode_of_writer hk
  cases hm : i.mnemonic
  case STA | STX | STY =>
    obtain ⟨h1, h4⟩ := resolveCost_bounds m .write st
    simp only [exec_STA, exec_STX, exec_STY, hm, hmode, storeOf, storeOperand_eq, Int.sub_sub] at h
    cases h
    exact ⟨by simp [confine, hm, hmode, controlTransfers, zeroNegativeWriters, shifts, Mode.operandBytes],
      Memory.wf_write, billed_of_cost _ (by omega) (by omega)⟩
  case INC | DEC =>
    have h1 := (resolveCost_bounds m .rmw st).1
    have h3 := resolveCost_rmw_le (by simp [hm]) hmode st
    simp only [exec_INC, exec_DEC, hm, hmode, modifyOf, modifyMem_eq, Int.sub_sub] at h
    cases h
    exact ⟨by simp [confine, hm, hmode, controlTransfers, zeroNegativeWriters, shifts, Mode.operandBytes, incByte,
      decByte, setZN], Memory.wf_write, billed_of_cost _ (by omega) (by omega)⟩
  all_goals rw [hm] at hk; cases hk

theorem effect_of_shift (hk : isShift i.mnemonic = true) (h : exec i st = .next t) : Effect i st t := by
  cases hm : i.mnemonic
  case ASL | LSR | ROL | ROR =>
    obtain hmode | ⟨m, hmode⟩ := mode_of_shift hk
    · simp only [exec_ASL, exec_LSR, exec_ROL, exec_ROR, hm, hmode, modifyOf, modifyAcc_eq] at h
      cases h
      exact ⟨by simp [confine, hm, hmode, controlTransfers, zeroNegativeWriters, shifts, Mode.operandBytes, aslByte,
        lsrByte, rolByte, rorByte, setZN], id, billed_of_cost _ (by decide) (by decide)⟩
    · have h1 := (resolveCost_bounds m .rmw st).1
      have h3 := resolveCost_rmw_le (by simp [hm]) hmode st
      simp only [exec_ASL, exec_LSR, exec_ROL, exec_ROR, hm, hmode, modifyOf, modifyMem_eq, Int.sub_sub] at h
      cases h
      exact ⟨by simp [confine, hm, hmode, controlTransfers, zeroNegativeWriters, shifts, Mode.operandBytes, aslByte,
        lsrByte, rolByte, rorByte, setZN], Memory.wf_write, billed_of_cost _ (by omega) (by omega)⟩
  all_goals rw [hm] at hk; cases hk

/-- A branch bills its offset byte, and a taken one up to two cycles more (40_engine.md R136). -/
theorem branchIf_billed (cond : Bool) (off : Byte) (st : State) :
    1 ≤ st.cycles - (branchIf cond off st).cycles ∧ st.cycles - (branchIf cond off st).cycles ≤ 6 := by
  cases cond with
  | false => exact billed_of_cost _ (by decide) (by decide)
  | true =>
    rw [branchIf_taken]
    exact billed_of_cost _ (by split <;> decide) (by split <;> decide)

theorem effect_of_controlTransfer (hk : i.mnemonic ∈ controlTransfers) (h : exec i st = .next t) : Effect i st t := by
  cases i
  case bpl | bmi | bvc | bvs | bcc | bcs | bne | beq =>
    cases h
    refine ⟨?_, ?_, branchIf_billed _ _ _⟩
    · rw [branchIf_eq]
      simp [confine, Instr.mnemonic, Instr.form, controlTransfers, zeroNegativeWriters, shifts]
    · rw [branchIf_eq]; exact id
  case jsr | jmpAbs | jmpInd | rts | brk | rti =>
    cases h
    simp only [jumpSubroutine_eq, indirectTarget_eq, returnSubroutine_eq, takeBreak_eq, returnFromBreak_eq]
    refine ⟨?_, fun hw => ?_, ?_⟩
    · simp [confine, Instr.mnemonic, Instr.form, controlTransfers, zeroNegativeWriters, shifts, unpackP]
    · simp [hw, push_wf, breakFrame_wf]
    · simp only [State.fetchedWord_cycles, State.fetched_cycles, State.tick_cycles]
      omega
  all_goals simp [Instr.mnemonic, Instr.form, controlTransfers] at hk

theorem effect_of_implied (hk : isImplied i.mnemonic = true) (h : exec i st = .next t) : Effect i st t := by
  cases i <;> cases hk <;> cases h
  all_goals
    refine ⟨?_, fun hw => ?_, ?_⟩
    · simp [confine, Instr.mnemonic, Instr.mode, Instr.form, Mode.operandBytes, controlTransfers, zeroNegativeWriters,
        shifts, State.tick, setX, setY, transferA, transferX, transferY, push_eq, pullA_eq, pullP_eq, unpackP, setZN]
    · simp [setX, setY, transferA, transferX, transferY, pullA_eq, pullP_eq, hw, push_wf]
    · simp only [State.tick, setX, setY, transferA, transferX, transferY, push_eq, pullA_eq, pullP_eq]
      omega

/-! ## Every instruction -/

/-- What an instruction that goes on has done. -/
theorem exec_effect (h : exec i st = .next t) : Effect i st t := by
  obtain hk | hk | hk | hk | hk := kind_of_mnemonic i.mnemonic
  · exact effect_of_reader hk h
  · exact effect_of_writer hk h
  · exact effect_of_shift hk h
  · exact effect_of_controlTransfer hk h
  · exact effect_of_implied hk h

theorem exec_keeps_cfg_resetDone_b (h : exec i st = .next t) :
    t.cfg = st.cfg ∧ t.resetDone = st.resetDone ∧ t.flags.b = st.flags.b := by
  rw [(exec_effect h).confined]
  exact ⟨rfl, rfl, rfl⟩

end Sys2Proof.Machine
end

section
/-! SUPPORT. The rules on who writes what, and the invariant of every step, read off `exec_effect`. -/

namespace Sys2Proof.Machine

/-- Settles O9: a step that goes on starts with a positive counter, of which the opcode fetch bills one cycle and the
instruction at most six. -/
theorem everyStepKeepsTheInvariant : Obligations.EveryStepKeepsTheInvariant := by
  intro st t hinv hstep
  obtain ⟨-, hc, i, -, -, h⟩ := step_next hstep
  obtain ⟨-, hr, hb⟩ := exec_keeps_cfg_resetDone_b h
  obtain ⟨-, hmem, -, h6⟩ := exec_effect h
  rw [State.fetched_cycles] at h6
  exact ⟨hmem hinv.mem_wf, hr.trans hinv.reset_done, hb.trans hinv.b_clear, by omega⟩

/-- Settles O14: the opcode fetch leaves them alone, and so does every instruction. -/
theorem stepsKeepParametersMarkerAndB : Obligations.StepsKeepParametersMarkerAndB := by
  intro st t hstep
  obtain ⟨-, -, i, -, -, h⟩ := step_next hstep
  simpa only [State.fetched_cfg, State.fetched_resetDone, State.fetched_flags] using exec_keeps_cfg_resetDone_b h

/-- Settles O24, by the registers of `confine`. -/
theorem onlyTheListedInstructionsWriteRegisters : Obligations.OnlyTheListedInstructionsWriteRegisters := by
  intro i st t h
  rw [(exec_effect h).confined]
  exact ⟨fun ha hs => if_pos ⟨ha, hs⟩, fun hx => if_pos hx, fun hy => if_pos hy, fun hs => if_pos hs⟩

/-- Settles O25, by the flags of `confine`. -/
theorem onlyTheListedInstructionsWriteFlags : Obligations.OnlyTheListedInstructionsWriteFlags := by
  intro i st t h
  rw [(exec_effect h).confined]
  exact ⟨fun hc => if_pos hc, fun hz => ⟨if_pos hz, if_pos hz⟩, fun hi => if_pos hi, fun hd => if_pos hd,
    fun hv => if_pos hv, rfl⟩

/-- Settles O26, by the PC of `confine`. -/
theorem onlyControlTransfersRedirectThePC : Obligations.OnlyControlTransfersRedirectThePC := by
  intro i st t h hn
  rw [(exec_effect h).confined]
  exact if_pos hn

end Sys2Proof.Machine
end

section
/-! SUPPORT. The host's memory operations (20_memory.md R51, R52), and that a canonical memory is determined by what it
reads (R50). -/

namespace Sys2Proof.Machine

open Sys2Proof.Statements

/-! ## Host addresses and the bytes of a word -/

/-- Host addresses are the same cell when they agree modulo 2^16 (R52). -/
theorem hostAddr_inj {a c : Int} : hostAddr a = hostAddr c ↔ a % 65536 = c % 65536 := by
  rw [hostAddr, hostAddr, ← BitVec.toNat_inj, BitVec.toNat_ofInt, BitVec.toNat_ofInt]
  omega

theorem lo8_eq_lo (w : Word) : lo8 w = lo w := by
  rw [lo, ← lo8_toNat, BitVec.ofNat_toNat, BitVec.setWidth_eq]

theorem hi8_eq_hi (w : Word) : hi8 w = hi w := by
  rw [hi, ← hi8_toNat, BitVec.ofNat_toNat, BitVec.setWidth_eq]

/-! ## What the host reads after it wrote -/

section
variable {st : State} (h : Memory.wf st.mem = true) (a c : Int)
include h

theorem hostWrite_wf (v : Byte) : Memory.wf (st.hostWrite a v).mem = true := Memory.wf_write h

theorem hostRead_hostWrite (v : Byte) :
    (st.hostWrite a v).hostRead c = if c % 65536 = a % 65536 then v else st.hostRead c := by
  simp only [State.hostRead, State.hostWrite, State.peek_poke h, hostAddr_inj]

/-- Little-endian: the low byte at the address, then the high byte at the next one. -/
theorem hostRead_hostWriteWord (w : Word) : (st.hostWriteWord a w).hostRead c =
    if c % 65536 = (a + 1) % 65536 then hi w else if c % 65536 = a % 65536 then lo w else st.hostRead c := by
  rw [State.hostWriteWord, hostRead_hostWrite (hostWrite_wf h a _), hostRead_hostWrite h, lo8_eq_lo, hi8_eq_hi]

end

/-- Settles O22: each operation changes memory alone, and an empty list of cells reads 0 everywhere. -/
theorem hostMemoryOperations : Obligations.HostMemoryOperations :=
  fun _ a c v w h => ⟨hostRead_hostWrite h a c v, hostRead_hostWriteWord h a c w, rfl, rfl, rfl, rfl, fun _ => rfl⟩

/-! ## Canonical memories -/

theorem Memory.read_cons_self (b : Nat) (v : Byte) (m : Memory) : Memory.read ((b, v) :: m) b = v := if_pos rfl

theorem Memory.read_cons_of_ne {a b : Nat} (hne : b ≠ a) (v : Byte) (m : Memory) :
    Memory.read ((b, v) :: m) a = Memory.read m a := if_neg hne

/-- A canonical memory reads a byte other than 0 at the first address it lists, so a memory that reads alike lists that
address or an earlier one. -/
theorem Memory.head_le_head {lo lo' b b' : Nat} {v v' : Byte} {m m' : Memory}
    (h : Memory.wfFrom lo ((b, v) :: m) = true) (h' : Memory.wfFrom lo' ((b', v') :: m') = true)
    (hr : Memory.read ((b, v) :: m) b = Memory.read ((b', v') :: m') b) : b' ≤ b := by
  obtain ⟨-, -, hv, -⟩ := Memory.wfFrom_cons.1 h
  obtain ⟨-, htail'⟩ := Memory.wfFrom_cons.1 h'
  by_contra hlt
  rw [Memory.read_cons_self, Memory.read_of_lt (Memory.wfFrom_cons.2 ⟨le_rfl, htail'⟩) (Nat.lt_of_not_le hlt)] at hr
  exact hv hr

/-- What a canonical memory reads determines its list, byte by byte: the first address listed is the first that does
not read 0. -/
theorem Memory.eq_of_read_eq {lo lo' : Nat} {m m' : Memory} (h : Memory.wfFrom lo m = true)
    (h' : Memory.wfFrom lo' m' = true) (hr : ∀ a < 65536, Memory.read m a = Memory.read m' a) : m = m' := by
  induction m generalizing lo lo' m' with
  | nil =>
    cases m' with
    | nil => rfl
    | cons e' m' =>
      obtain ⟨-, hb', hv', -⟩ := Memory.wfFrom_cons.1 h'
      exact absurd ((Memory.read_cons_self _ _ _).symm.trans (hr _ hb').symm) hv'
  | cons e m ih =>
    obtain ⟨b, v⟩ := e
    obtain ⟨-, hb, hv, hm⟩ := Memory.wfFrom_cons.1 h
    cases m' with
    | nil => exact absurd ((Memory.read_cons_self _ _ _).symm.trans (hr _ hb)) hv
    | cons e' m' =>
      obtain ⟨b', v'⟩ := e'
      obtain ⟨-, hb', hv', hm'⟩ := Memory.wfFrom_cons.1 h'
      obtain rfl : b = b' :=
        Nat.le_antisymm (Memory.head_le_head h' h (hr b' hb').symm) (Memory.head_le_head h h' (hr b hb))
      have hvv : v = v' := by simpa only [Memory.read_cons_self] using hr b hb
      have tails : ∀ a < 65536, Memory.read m a = Memory.read m' a := by
        intro a ha
        obtain hle | hgt := le_or_gt a b
        · rw [Memory.read_of_lt hm (by omega), Memory.read_of_lt hm' (by omega)]
        · simpa only [Memory.read_cons_of_ne (Nat.ne_of_lt hgt)] using hr a ha
      rw [hvv, ih hm hm' tails]

/-- Settles O23: a 16-bit address is any address below 65536. -/
theorem canonicalMemoriesThatReadAlikeAreEqual : Obligations.CanonicalMemoriesThatReadAlikeAreEqual := by
  intro m m' h h' hr
  exact Memory.eq_of_read_eq h h' fun a ha => by
    simpa only [BitVec.toNat_ofNat, Nat.mod_eq_of_lt ha] using hr (BitVec.ofNat 16 a)

end Sys2Proof.Machine
end

section
/-! SUPPORT. Which instructions write memory (20_memory.md R56, R58), and that pushes write page 1 only (R64). -/

namespace Sys2Proof.Machine

open Sys2Proof.Statements

/-- Settles O27, by the memory of `confine`. -/
theorem onlyStoresModifiesAndPushesWriteMemory : Obligations.OnlyStoresModifiesAndPushesWriteMemory := by
  intro i st t h hn hs
  rw [(exec_effect h).confined]
  exact if_pos ⟨hn, hs⟩

theorem jumpSubroutine_mem (w : Word) (st : State) :
    (jumpSubroutine w st).mem = (push (lo8 (st.pc + 1#16)) (push (hi8 (st.pc + 1#16)) st)).mem := by
  rw [jumpSubroutine_eq]

theorem takeBreak_mem (st : State) :
    (takeBreak st).mem = (push (packP true st.flags) (push (lo8 st.pc) (push (hi8 st.pc) st))).mem := by
  rw [takeBreak_eq, breakFrame]

theorem page_stackAddr (s : Byte) : page (stackAddr s) = 1 := by
  have := s.isLt
  rw [page, stackAddr_toNat]
  omega

section
variable {st : State} {c : Word} (h : Memory.wf st.mem = true) (hc : page c ≠ 1)
include h hc

theorem push_peek_of_page_ne (v : Byte) : (push v st).peek c = st.peek c := by
  have hne : c ≠ stackAddr st.s := fun e => hc (e ▸ page_stackAddr st.s)
  rw [push_peek st v h, if_neg hne]

theorem push_push_peek_of_page_ne (u v : Byte) : (push v (push u st)).peek c = st.peek c := by
  rw [push_peek_of_page_ne (push_wf st u h) hc, push_peek_of_page_ne h hc]

theorem jumpSubroutine_peek_of_page_ne (w : Word) : (jumpSubroutine w st).peek c = st.peek c := by
  rw [State.peek_congr (jumpSubroutine_mem w st), push_push_peek_of_page_ne h hc]

theorem takeBreak_peek_of_page_ne : (takeBreak st).peek c = st.peek c := by
  have h2 := push_wf (push (hi8 st.pc) st) (lo8 st.pc) (push_wf st (hi8 st.pc) h)
  rw [State.peek_congr (takeBreak_mem st), push_peek_of_page_ne h2 hc, push_push_peek_of_page_ne h hc]

end

/-- Settles O28: JSR pushes two bytes, BRK the three of its frame, PHA and PHP one. -/
theorem pushesStayInPageOne : Obligations.PushesStayInPageOne := by
  intro i st t hi hw h c hc
  cases i
  case jsr w =>
    cases h
    exact jumpSubroutine_peek_of_page_ne hw hc w
  case brk =>
    cases h
    exact takeBreak_peek_of_page_ne (st := st.fetched) hw hc
  case pha | php =>
    cases h
    exact push_peek_of_page_ne (st := st.tick) hw hc _
  all_goals simp [Instr.mnemonic, Instr.form] at hi

end Sys2Proof.Machine
end

section
/-! SUPPORT. The two halves of decoding (30_encoding.md R80 to R85): what a handler makes of operand bytes, and which
opcode an instruction has. Decoding and encoding are inverse because the opcode map and `encode` agree. -/

namespace Sys2Proof

open Sys2Proof.Machine Sys2Proof.Statements

variable {p : Profile} {op : Byte} {operand bytes rest : List Byte} {i : Instr}

/-! ## Handlers -/

/-- `h.Makes operand i`: from these operand bytes, the low byte of a word first, the handler `h` makes `i` (R81, R82). -/
inductive Handler.Makes : Handler → List Byte → Instr → Prop
  | f1 (i : Instr) : Makes (.f1 i) [] i
  | f2 (mk : Byte → Instr) (b : Byte) : Makes (.f2 mk) [b] (mk b)
  | f3 (mk : Word → Instr) (w : Word) : Makes (.f3 mk) [lo8 w, hi8 w] (mk w)

/-- What decodes is an opcode byte and the operand bytes of which its handler makes the instruction. -/
theorem decode_eq_ok_iff_makes : decode p bytes = .ok (i, rest) ↔
    ∃ op operand, bytes = op :: (operand ++ rest) ∧ (handlerOf p op).Makes operand i := by
  constructor
  · intro h
    obtain _ | ⟨op, tail⟩ := bytes
    · cases h
    · rw [decode] at h
      refine ⟨op, ?_⟩
      split at h
      · cases h
      · next hh => cases h; exact ⟨[], rfl, hh ▸ .f1 _⟩
      · next mk hh =>
        split at h <;> cases h
        next b => exact ⟨[b], rfl, hh ▸ .f2 mk b⟩
      · next mk hh =>
        split at h <;> cases h
        next lo hi =>
          have hm := Handler.Makes.f3 mk (mkWord hi lo)
          rw [lo8_mkWord, hi8_mkWord] at hm
          exact ⟨[lo, hi], rfl, hh ▸ hm⟩
  · rintro ⟨op, operand, rfl, hm⟩
    generalize hh : handlerOf p op = h at hm
    cases hm <;> simp [decode, hh]

/-! ## The opcode map against the instructions' opcodes -/

/-- Every instruction of a profile is made by the handler its opcode has in the map of R84, or in the table of R85. -/
theorem handlerOf_makes_of_wf (hw : i.wf p = true) (he : encode i = op :: operand) :
    (handlerOf p op).Makes operand i := by
  cases p with
  | nmos151 =>
    cases i
    all_goals cases he; constructor
  | doc4 =>
    cases i
    case ldaImm | ldaZp | ldaZpX | jsr => cases he; constructor
    all_goals cases hw

/-- An entry of the map of R84 makes only instructions with the entry's own opcode: its row the high nibble, its column
the low nibble. -/
theorem encode_of_opcodeMap_makes {r c : Nat} (hr : r < 16) (hc : c < 16)
    (hm : ((opcodeMap.getD r []).getD c .unknown).Makes operand i) :
    encode i = BitVec.ofNat 8 (16 * r + c) :: operand := by
  interval_cases r <;> interval_cases c
  all_goals cases hm <;> rfl

theorem encode_of_doc4Handler_makes (hm : (doc4Handler op).Makes operand i) :
    i.inDoc4 = true ∧ encode i = op :: operand := by
  unfold doc4Handler at hm
  split_ifs at hm <;> cases hm
  all_goals subst op; exact ⟨rfl, rfl⟩

/-- A handler makes the instructions of its profile with its opcode, and no others. -/
theorem handlerOf_makes_iff :
    (handlerOf p op).Makes operand i ↔ i.wf p = true ∧ encode i = op :: operand := by
  refine ⟨fun hm => ?_, fun ⟨hw, he⟩ => handlerOf_makes_of_wf hw he⟩
  cases p with
  | nmos151 =>
    have he := encode_of_opcodeMap_makes (by have := op.isLt; omega) (by omega) hm
    rw [Nat.div_add_mod, BitVec.ofNat_toNat, BitVec.setWidth_eq] at he
    exact ⟨rfl, he⟩
  | doc4 => exact encode_of_doc4Handler_makes hm

/-- What decodes is the encoding of an instruction of the profile, followed by the rest. -/
theorem decode_eq_ok_iff : decode p bytes = .ok (i, rest) ↔ i.wf p = true ∧ encode i ++ rest = bytes := by
  simp only [decode_eq_ok_iff_makes, handlerOf_makes_iff]
  constructor
  · rintro ⟨op, operand, rfl, hw, he⟩
    exact ⟨hw, by rw [he, List.cons_append]⟩
  · rintro ⟨hw, rfl⟩
    obtain ⟨op, operand, he⟩ : ∃ op operand, encode i = op :: operand := by cases i <;> exact ⟨_, _, rfl⟩
    exact ⟨op, operand, by rw [he, List.cons_append], hw, he⟩

/-- Settles O1: one direction of `decode_eq_ok_iff`. -/
theorem decodeOfEncodeIsTheInstruction : Obligations.DecodeOfEncodeIsTheInstruction :=
  fun _ _ _ hw => decode_eq_ok_iff.2 ⟨hw, rfl⟩

/-- Settles O2: the other direction. -/
theorem encodeOfDecodeIsTheBytes : Obligations.EncodeOfDecodeIsTheBytes :=
  fun _ _ _ _ h => (decode_eq_ok_iff.1 h).symm

/-- Settles O3: each word is the encoding of its instruction, with the rest after it. -/
theorem wordsOfEachFamilyDecode : Obligations.WordsOfEachFamilyDecode := by
  unfold Obligations.WordsOfEachFamilyDecode
  and_intros
  all_goals exact decode_eq_ok_iff.2 ⟨rfl, rfl⟩

end Sys2Proof
end

section
/-! SUPPORT. What each profile does not decode (30_encoding.md R85, R86), and what the step answers there. -/

namespace Sys2Proof

open Sys2Proof.Machine Sys2Proof.Statements

/-! ## DOC4 -/

theorem mkWord_eq_word (h l : Byte) : mkWord h l = word h l := by
  rw [word, ← mkWord_toNat, BitVec.ofNat_toNat, BitVec.setWidth_eq]

/-- Settles O5, along the chain of `doc4Handler`. -/
theorem doc4DecodesExactlyFourOpcodes : Obligations.Doc4DecodesExactlyFourOpcodes := by
  intro op b1 b2
  rw [← mkWord_eq_word, decode, handlerOf, doc4Handler]
  split_ifs <;> rfl

/-! ## NMOS151 -/

/-- Is there no handler? -/
def Handler.isUnknown : Handler → Bool
  | .unknown => true
  | _ => false

theorem decode_eq_unknownOpcode_iff {p : Profile} {op : Byte} {rest : List Byte} :
    decode p (op :: rest) = .error (.unknownOpcode op) ↔ (handlerOf p op).isUnknown = true := by
  rw [decode]
  cases handlerOf p op with
  | unknown | f1 => simp [Handler.isUnknown]
  | f2 | f3 => simp only [Handler.isUnknown]; split <;> simp

/-- The list of R86 is the bytes in order, less those that have a handler. -/
theorem undecoded_eq_filter :
    undecoded = (List.range 256).filter fun n => (handlerOf .nmos151 (BitVec.ofNat 8 n)).isUnknown := by
  decide

theorem mem_undecoded_iff {op : Byte} :
    op.toNat ∈ undecoded ↔ (handlerOf .nmos151 op).isUnknown = true := by
  rw [undecoded_eq_filter, List.mem_filter, List.mem_range, BitVec.ofNat_toNat, BitVec.setWidth_eq]
  exact and_iff_right op.isLt

theorem undecoded_nodup : undecoded.Nodup := by
  rw [undecoded_eq_filter]
  exact List.nodup_range.filter _

/-- With the checks before it passed, the step stops where the decoder does (60_exceptions.md R305). -/
theorem step_of_decodeAt_error {st : State} {e : DecodeError} (hr : st.resetDone = true) (hc : 0 < st.cycles)
    (hd : decodeAt st = .error e) : step st = .fault (.unknownOpcode (st.peek st.pc) st.pc) := by
  rw [step, engineStep, if_pos hr, if_neg (by omega), hd]

/-- Settles O4: the list is the opcodes without a handler, and the step stops at one of them. -/
theorem undecodedBytesAreUnknownOpcodes : Obligations.UndecodedBytesAreUnknownOpcodes := by
  refine ⟨rfl, undecoded_nodup, fun op b1 b2 => decode_eq_unknownOpcode_iff.trans mem_undecoded_iff.symm, ?_⟩
  intro st hp hr hc hmem
  refine step_of_decodeAt_error hr hc (e := .unknownOpcode (st.peek st.pc)) ?_
  rw [decodeAt, hp, instrBytes, decode_eq_unknownOpcode_iff]
  exact mem_undecoded_iff.1 hmem

end Sys2Proof
end

section
/-! SUPPORT. One pass of the Execute loop (40_engine.md R111, R115): which outcomes it has, and what it costs. -/

namespace Sys2Proof.Machine

open Sys2Proof.Statements

variable {i : Instr} {st t : State}

/-! ## The handler -/

/-- A handler completes, except that ADC and SBC are refused with D = 1 under DECIMAL_MODE = refuse (60_exceptions.md
R302, R303). -/
theorem exec_next_or_refused (i : Instr) (st : State) :
    (∃ t, exec i st = .next t) ∨
      ((i.mnemonic = .ADC ∨ i.mnemonic = .SBC) ∧ st.flags.d = true ∧ st.cfg.decimalMode = .refuse ∧
        exec i st = .refused .decimalRefused) := by
  by_cases hm : i.mnemonic = .ADC ∨ i.mnemonic = .SBC
  · have hk : readsOperand i.mnemonic = true := by obtain h | h := hm <;> rw [h] <;> rfl
    have hx : (∃ t, exec i st = .next t) ∨ ((readOf i.mode st).2.flags.d = true ∧
        (readOf i.mode st).2.cfg.decimalMode = .refuse ∧ exec i st = .refused .decimalRefused) := by
      obtain h | h := hm
      · rw [exec_ADC st h]
        exact (addWithCarry_cases _).imp_left fun ⟨_, _, hn, _⟩ => ⟨_, hn⟩
      · rw [exec_SBC st h]
        exact (subWithBorrow_cases _).imp_left fun ⟨_, _, hn, _⟩ => ⟨_, hn⟩
    obtain ⟨_, _, -, -, hr⟩ := readOf_eq (mode_of_reader hk) st
    rw [hr] at hx
    exact hx.imp_right (And.intro hm)
  · refine .inl ?_
    cases i
    case adcIndX | adcZp | adcImm | adcAbs | adcIndY | adcZpX | adcAbsY | adcAbsX => exact absurd (.inl rfl) hm
    case sbcIndX | sbcZp | sbcImm | sbcAbs | sbcIndY | sbcZpX | sbcAbsY | sbcAbsX => exact absurd (.inr rfl) hm
    all_goals exact ⟨_, rfl⟩

/-- Settles O21: the handler bills one to six cycles on top of the opcode fetch. -/
theorem instructionsTakeTwoToSevenCycles : Obligations.InstructionsTakeTwoToSevenCycles := by
  intro i st t h
  obtain ⟨h1, h6⟩ := (exec_effect h).billed
  omega

/-! ## The step -/

/-- At an instruction boundary without cycles left, the loop ends (40_engine.md R111). -/
theorem step_of_cycles_nonpos (hr : st.resetDone = true) (hc : st.cycles ≤ 0) : step st = .fault .budgetExhausted := by
  rw [step, engineStep, if_pos hr, if_pos hc]

/-- With the checks before it passed, the step runs what it decodes (60_exceptions.md R305). -/
theorem step_of_decodeAt_ok {rest : List Byte} (hr : st.resetDone = true) (hc : 0 < st.cycles)
    (hd : decodeAt st = .ok (i, rest)) : step st = exec i st.fetched := by
  rw [step, engineStep, if_pos hr, if_neg (by omega), hd]

/-- Settles O10: the statement writes out `decodeAt` and `State.fetched`. -/
theorem stepRunsTheDecodedInstruction : Obligations.StepRunsTheDecodedInstruction :=
  fun _ _ _ hr hc hd => step_of_decodeAt_ok hr hc hd

/-- With cycles left, a step goes on, stops at an unknown opcode, or is refused in decimal mode. -/
theorem step_of_cycles_pos (hr : st.resetDone = true) (hc : 0 < st.cycles) :
    (∃ t, step st = .next t) ∨ (∃ op a, step st = .fault (.unknownOpcode op a)) ∨
      (st.cfg.decimalMode = .refuse ∧ step st = .refused .decimalRefused) := by
  cases hd : decodeAt st with
  | error e => exact .inr (.inl ⟨_, _, step_of_decodeAt_error hr hc hd⟩)
  | ok r =>
    rw [step_of_decodeAt_ok hr hc hd]
    obtain hn | ⟨-, -, hm, hn⟩ := exec_next_or_refused r.1 st.fetched
    · exact .inl hn
    · exact .inr (.inr ⟨hm, hn⟩)

/-- A step that goes on had cycles left, bills two to seven (40_engine.md R123), and keeps `reset_done` and the
parameters. -/
theorem step_next_bills (h : step st = .next t) :
    0 < st.cycles ∧ 2 ≤ st.cycles - t.cycles ∧ st.cycles - t.cycles ≤ 7 ∧ t.resetDone = true ∧ t.cfg = st.cfg := by
  obtain ⟨hr, hc, i, -, -, hx⟩ := step_next h
  obtain ⟨h2, h7⟩ := instructionsTakeTwoToSevenCycles i _ _ hx
  obtain ⟨hcfg, hdone, -⟩ := exec_keeps_cfg_resetDone_b hx
  rw [State.fetched_cycles] at h2 h7
  exact ⟨hc, by omega, by omega, hdone.trans hr, hcfg⟩

end Sys2Proof.Machine
end

section
/-! SUPPORT. The Execute loop (40_engine.md R110, R111): it ends within the overrun of one instruction. -/

namespace Sys2Proof.Machine

open Sys2Proof.Statements

variable {st t : State} {budget fuel : Nat}

/-! ## One pass -/

theorem executeLoop_of_next (h : step st = .next t) :
    executeLoop budget (fuel + 1) st = executeLoop budget fuel t := by
  rw [executeLoop, h]

theorem executeLoop_of_unknownOpcode {op : Byte} {a : Word} (h : step st = .fault (.unknownOpcode op a)) :
    executeLoop budget (fuel + 1) st =
      some (.returned (budget - st.fetched.cycles) (.unknownOpcode op a) st.fetched) := by
  rw [executeLoop, h]

theorem executeLoop_of_refused {r : Refusal} (h : step st = .refused r) :
    executeLoop budget (fuel + 1) st = some (.refused r) := by
  rw [executeLoop, h]

theorem executeLoop_of_cycles_nonpos (hr : st.resetDone = true) (hc : st.cycles ≤ 0) :
    executeLoop budget (fuel + 1) st = some (.returned (budget - st.cycles) .budgetExhausted st) := by
  rw [executeLoop, step_of_cycles_nonpos hr hc]

/-! ## The whole loop -/

/-- How the loop ends: it returns what it has consumed, at most 6 cycles more than the budget and on BudgetExhausted
all of it, or it is refused in decimal mode. -/
def EndsWithinTheOverrun (budget : Nat) (mode : DecimalMode) (result : Option ExecuteResult) : Prop :=
  (∃ (consumed : Int) (outcome : ExecuteOutcome) (final : State),
    result = some (.returned consumed outcome final) ∧
    consumed = budget - final.cycles ∧ 0 ≤ consumed ∧ consumed ≤ budget + 6 ∧
    (outcome = .budgetExhausted → (budget : Int) ≤ consumed)) ∨
  (mode = .refuse ∧ result = some (.refused .decimalRefused))

/-- The loop from a counter between the overrun and the budget, with more passes allowed than there are cycles left:
a pass that goes on starts above 0 and bills two to seven cycles, so the counter stays in that range and below the
passes that remain. -/
theorem executeLoop_endsWithinTheOverrun (hr : st.resetDone = true) (hfuel : 0 < fuel) (hcf : st.cycles < fuel)
    (hlow : -6 ≤ st.cycles) (hhigh : st.cycles ≤ budget) :
    EndsWithinTheOverrun budget st.cfg.decimalMode (executeLoop budget fuel st) := by
  induction fuel generalizing st with
  | zero => omega
  | succ fuel ih =>
    obtain hc | hc := le_or_gt st.cycles 0
    · exact .inl ⟨_, _, st, executeLoop_of_cycles_nonpos hr hc, rfl, by omega, by omega, fun _ => by omega⟩
    · obtain ⟨t, hn⟩ | ⟨op, a, hn⟩ | ⟨hm, hn⟩ := step_of_cycles_pos hr hc
      · obtain ⟨-, h2, h7, hrt, hcfg⟩ := step_next_bills hn
        rw [executeLoop_of_next hn, ← hcfg]
        exact ih hrt (by omega) (by omega) (by omega) (by omega)
      · refine .inl ⟨_, _, _, executeLoop_of_unknownOpcode hn, rfl, ?_, ?_, nofun⟩
        · rw [State.fetched_cycles]; omega
        · rw [State.fetched_cycles]; omega
      · exact .inr ⟨hm, executeLoop_of_refused hn⟩

/-- Settles O15: the call starts with the counter at the budget, and one pass more than the budget. -/
theorem executeReturnsWithinTheOverrun : Obligations.ExecuteReturnsWithinTheOverrun :=
  fun budget _ hr => executeLoop_endsWithinTheOverrun hr budget.succ_pos (Int.lt_succ budget)
    (Int.le_trans (by decide) (Int.natCast_nonneg budget)) (Int.le_refl budget)

/-- Settles O18: with budget 0 the first pass ends the loop, and with budget 1 the second does, as the one instruction
bills at least two cycles. -/
theorem budgetZeroRunsNothingAndOneRunsOne : Obligations.BudgetZeroRunsNothingAndOneRunsOne := by
  refine ⟨fun st hr => executeLoop_of_cycles_nonpos (st := st.startExecute 0) hr (Int.le_refl 0), fun st t hstep => ?_⟩
  obtain ⟨-, h2, -, hrt, -⟩ := step_next_bills hstep
  have hc : t.cycles ≤ 0 := by dsimp only at h2; omega
  exact (executeLoop_of_next (st := st.startExecute 1) hstep).trans (executeLoop_of_cycles_nonpos hrt hc)

end Sys2Proof.Machine
end

section
/-! SUPPORT. The load flags as a function of the byte (40_engine.md R138, R139). -/

namespace Sys2Proof.Machine

open Sys2Proof.Statements

theorem setZN_eq_withZN (r : Byte) (f : Flags) : setZN r f = withZN r f := by
  have hz : (r == 0x00#8) = decide (r.toNat = 0) := decide_eq_decide.2 BitVec.toNat_eq
  rw [setZN, withZN, hz, getLsbD_seven]

/-- Settles O58: `setZN` overwrites Z and N, so a second call with the same byte changes nothing. -/
theorem loadFlagsComeFromTheByte : Obligations.LoadFlagsComeFromTheByte :=
  fun r f => ⟨setZN_eq_withZN r f, rfl⟩

end Sys2Proof.Machine
end

section
/-! SUPPORT. The address-mode resolver and the operand helpers on numbers (40_engine.md R127 to R137): the effective
address, the operand, and the "cycles" column of loads and stores. -/

namespace Sys2Proof.Machine

open Sys2Proof.Statements

variable (m : AddrMode) (k : Access) (st : State)

/-! ## Effective addresses -/

theorem zext_eq_page0 (b : Byte) : zext b = page0 b := by
  rw [page0, ← zext_toNat, BitVec.ofNat_toNat, BitVec.setWidth_eq]

theorem pointerAt_eq_pointer (p : Byte) : pointerAt p st = pointer st p := by
  rw [pointerAt, pointer, mkWord_eq_word, zext_eq_page0, zext_eq_page0]; rfl

theorem resolve_fst_eq_effAddr : (resolve m k st).1 = effAddr st m := by
  cases m with
  | zp | zpX | zpY => exact zext_eq_page0 _
  | abs => rfl
  | absX w | absY w => exact congrArg (w + ·) (zext_eq_page0 _)
  | indX => exact pointerAt_eq_pointer st _
  | indY b => rw [effAddr, ← pointerAt_eq_pointer, ← zext_eq_page0]; rfl

/-! ## Cycles -/

theorem hi8_eq_hi8_iff_page_eq {a b : Word} : hi8 a = hi8 b ↔ page a = page b := by
  rw [← BitVec.toNat_inj, hi8_toNat, hi8_toNat]; rfl

/-- A read takes the cycle of an indexed sum when it leaves the page of its base (R123, R131). -/
theorem indexCost_read (base ea : Word) : indexCost base ea .read = crossing base ea := by
  simp [indexCost, crossing, hi8_eq_hi8_iff_page_eq]

/-- Any other access takes it always (R131). -/
theorem indexCost_of_ne_read {k : Access} (hk : k ≠ .read) (base ea : Word) : indexCost base ea k = 1 :=
  if_pos (.inl hk)

/-- Of a load's total, the opcode fetch and the read are not the mode's own. -/
theorem resolveCost_read : resolveCost m .read st = readCycles st (.mem m) - 2 := by
  cases m with
  | zp | zpX | zpY | abs | indX => rfl
  | absX | absY => simp only [resolveCost, readCycles, indexCost_read, zext_eq_page0]; omega
  | indY => simp only [resolveCost, readCycles, indexCost_read, zext_eq_page0, pointerAt_eq_pointer]; omega

/-- Of a store's total, the opcode fetch and the write are not the mode's own. -/
theorem resolveCost_write : resolveCost m .write st = writeCycles m - 2 := by
  have hw : ∀ base ea, indexCost base ea .write = 1 := indexCost_of_ne_read (by decide)
  cases m with
  | zp | zpX | zpY | abs | indX => rfl
  | absX | absY | indY => rw [resolveCost, hw]; rfl

/-! ## Operands -/

/-- LoadOperand gives the operand, and all it does to the state is to spend the operand bytes and the cycles (R137). -/
theorem readOf_eq_spent {m : Mode} (hm : readable m) (st : State) :
    readOf m st = (operandValue st m, spent st m.operandBytes (readCycles st m)) := by
  obtain ⟨v, rfl⟩ | ⟨m, rfl⟩ := hm
  · rfl
  · have hc : st.cycles - (readCycles st (.mem m) - 2) - 1 = st.cycles - (readCycles st (.mem m) - 1) := by omega
    rw [readOf, loadMem_eq, resolve_fst_eq_effAddr, resolveCost_read, hc]
    rfl

/-- StoreOperand spends the operand bytes and the cycles and replaces the byte at the effective address (R137). -/
theorem storeOperand_eq_poke (v : Byte) :
    storeOperand m v st = (spent st m.operandBytes (writeCycles m)).poke (effAddr st m) v := by
  have hc : st.cycles - (writeCycles m - 2) - 1 = st.cycles - (writeCycles m - 1) := by omega
  rw [storeOperand_eq, resolve_fst_eq_effAddr, resolveCost_write, hc]
  rfl

end Sys2Proof.Machine
end

section
/-! SUPPORT. The "profile" column of the rules' tables: of all instructions DOC4 has three forms of LDA, and JSR
(30_encoding.md R85). -/

namespace Sys2Proof

open Sys2Proof.Statements

theorem wf_doc4_iff {i : Instr} : i.wf .doc4 = true ↔
    (∃ b, i = .ldaImm b ∨ i = .ldaZp b ∨ i = .ldaZpX b) ∨ ∃ w, i = .jsr w := by
  constructor
  · intro h
    cases i
    case ldaImm b => exact .inl ⟨b, .inl rfl⟩
    case ldaZp b => exact .inl ⟨b, .inr (.inl rfl)⟩
    case ldaZpX b => exact .inl ⟨b, .inr (.inr rfl)⟩
    case jsr w => exact .inr ⟨w, rfl⟩
    all_goals cases h
  · rintro (⟨b, rfl | rfl | rfl⟩ | ⟨w, rfl⟩) <;> rfl

theorem mnemonic_of_wf_doc4 {i : Instr} (h : i.wf .doc4 = true) : i.mnemonic = .LDA ∨ i.mnemonic = .JSR := by
  obtain ⟨b, rfl | rfl | rfl⟩ | ⟨w, rfl⟩ := wf_doc4_iff.1 h
  · exact .inl rfl
  · exact .inl rfl
  · exact .inl rfl
  · exact .inr rfl

/-- Every mnemonic but LDA and JSR is of NMOS151 only. -/
theorem onlyNmos151_of_not_mem {mns : List Mnemonic} (hl : .LDA ∉ mns) (hj : .JSR ∉ mns) : OnlyNmos151 mns := by
  refine fun i hi => ⟨rfl, Bool.eq_false_iff.2 fun h => ?_⟩
  obtain he | he := mnemonic_of_wf_doc4 h
  · exact hl (he ▸ hi)
  · exact hj (he ▸ hi)

end Sys2Proof
end

section
/-! SUPPORT. The loads and stores (41_load_store.md). -/

namespace Sys2Proof.Machine

open Sys2Proof.Statements

variable {i : Instr} (st : State)

/-! ## Loads -/

/-- Settles O29: the operand of any of the eight forms, and Z and N from it. -/
theorem ldaLoadsTheAccumulator : Obligations.LdaLoadsTheAccumulator := by
  refine ⟨fun b v w => ?_, fun i h => ⟨rfl, ?_⟩, fun i st h => ?_⟩
  · rw [← lo8_eq_lo, ← hi8_eq_hi]
    and_intros
    all_goals rfl
  · have hj : ¬ ∃ w, i = .jsr w := by rintro ⟨w, rfl⟩; cases h
    rw [wf_doc4_iff, or_iff_left hj]
  · rw [exec_LDA st h, readOf_eq_spent (mode_of_reader (h ▸ rfl)) st, loadA, setZN_eq_withZN]
    rfl

/-- Settles O30: as for LDA, with X and Y. -/
theorem ldxAndLdyLoadTheIndexRegisters : Obligations.LdxAndLdyLoadTheIndexRegisters := by
  refine ⟨fun v b w => ?_, onlyNmos151_of_not_mem (by decide) (by decide), fun i st => ⟨fun h => ?_, fun h => ?_⟩⟩
  · rw [← lo8_eq_lo, ← hi8_eq_hi]
    and_intros
    all_goals rfl
  · rw [exec_LDX st h, readOf_eq_spent (mode_of_reader (h ▸ rfl)) st, loadX, setZN_eq_withZN]
    rfl
  · rw [exec_LDY st h, readOf_eq_spent (mode_of_reader (h ▸ rfl)) st, loadY, setZN_eq_withZN]
    rfl

/-! ## Stores -/

/-- A store of whichever register replaces the byte at the effective address. -/
theorem exec_store_eq_poke {m : AddrMode} {v : Byte} (hm : i.mode = .mem m)
    (hv : i.mnemonic = .STA ∧ v = st.a ∨ i.mnemonic = .STX ∧ v = st.x ∨ i.mnemonic = .STY ∧ v = st.y) :
    exec i st = .next ((spent st m.operandBytes (writeCycles m)).poke (effAddr st m) v) := by
  rw [← storeOperand_eq_poke]
  obtain ⟨h, rfl⟩ | ⟨h, rfl⟩ | ⟨h, rfl⟩ := hv
  · rw [exec_STA st h, hm, storeOf]
  · rw [exec_STX st h, hm, storeOf]
  · rw [exec_STY st h, hm, storeOf]

/-- Settles O31: a byte replaced in memory, with the rules of `poke`; no profile has a handler for 0x89. -/
theorem storesWriteOneByte : Obligations.StoresWriteOneByte := by
  refine ⟨fun b w => ?_, onlyNmos151_of_not_mem (by decide) (by decide), fun p b => ?_, fun i st m v hm hv => ?_⟩
  · rw [← lo8_eq_lo, ← hi8_eq_hi]
    and_intros
    all_goals rfl
  · rw [decode_eq_unknownOpcode_iff]
    cases p <;> rfl
  · exact ⟨_, exec_store_eq_poke st hm hv, rfl, fun hw a =>
      State.peek_poke (st := spent st m.operandBytes (writeCycles m)) hw (effAddr st m) a v⟩

end Sys2Proof.Machine
end

section
/-! SUPPORT. The arithmetic of 42_alu.md on numbers: the adder and the subtractor in both modes, compare, bit test,
increment, decrement and the shifts, as functions of operand values. -/

namespace Sys2Proof.Machine

open Sys2Proof.Statements

variable (a m g v : Byte) (c : Bool) (f : Flags)

/-! ## Addition -/

theorem and_0F_toNat : (a &&& 0x0F#8).toNat = a.toNat % 16 :=
  Nat.and_two_pow_sub_one_eq_mod a.toNat 4

theorem and_F0_toNat : (a &&& 0xF0#8).toNat = 16 * (a.toNat / 16) := by
  revert a; decide

/-- Without its low digit, a byte keeps its sign. -/
theorem and_F0_toInt : (a &&& 0xF0#8).toInt = a.toInt - (a.toNat % 16 : Nat) := by
  revert a; decide

theorem toInt_eq_ite : a.toInt = if 128 ≤ a.toNat then (a.toNat : Int) - 256 else a.toNat := by
  rw [BitVec.toInt_eq_toNat_cond]
  split_ifs <;> omega

/-- The sign of the sum differs from both operands' exactly when the signed sum is out of range (40_engine.md R140). -/
theorem overflow_of_add {r : Byte} (hr : r = BitVec.ofNat 8 (a.toNat + m.toNat + c.toNat)) :
    ((a ^^^ r) &&& (m ^^^ r)).getLsbD 7 =
      decide (a.toInt + m.toInt + c.toNat < -128 ∨ 127 < a.toInt + m.toInt + c.toNat) := by
  have hrn : r.toNat = (a.toNat + m.toNat + c.toNat) % 256 := by rw [hr, BitVec.toNat_ofNat]
  have ha := a.isLt
  have hm := m.isLt
  have hc := c.toNat_le
  have h1 := toInt_eq_ite a
  have h2 := toInt_eq_ite m
  rw [BitVec.getLsbD_and, BitVec.getLsbD_xor, BitVec.getLsbD_xor, getLsbD_seven, getLsbD_seven, getLsbD_seven, hrn,
    Bool.eq_iff_iff]
  simp only [Bool.and_eq_true, bne_iff_ne, ne_eq, decide_eq_true_eq, decide_eq_decide]
  omega

theorem addBinary_eq : addBinary a m c f = (BitVec.ofNat 8 (a.toNat + m.toNat + c.toNat), sumFlags a m c f) := by
  simp only [addBinary, sumFlags, setZN_eq_withZN, overflow_of_add a m c rfl]
  rfl

theorem addDecimalLow_eq : addDecimalLow a m c = decimalLowSum a m c := by
  rw [addDecimalLow, and_0F_toNat, and_0F_toNat]
  rfl

theorem addDecimal_eq : addDecimal a m c f = (BitVec.ofNat 8 (decimalSumAdjusted a m c),
    { f with
      n := decide (decimalSum a m c / 128 % 2 = 1)
      v := decide (decimalSignedSum a m c < -128 ∨ 127 < decimalSignedSum a m c)
      z := decide ((a.toNat + m.toNat + c.toNat) % 256 = 0)
      c := decide (256 ≤ decimalSumAdjusted a m c) }) := by
  simp only [addDecimal, addDecimalLow_eq, and_F0_toNat, and_F0_toInt, Nat.testBit_eq_decide_div_mod_eq]
  rfl

/-! ## Subtraction -/

/-- On bytes, subtracting with borrow is adding the complement with carry. -/
theorem ofInt_sub_eq_ofNat_add_not : BitVec.ofInt 8 ((a.toNat : Int) - m.toNat - (1 - c.toNat)) =
    BitVec.ofNat 8 (a.toNat + (~~~m).toNat + c.toNat) := by
  have hm := m.isLt
  apply BitVec.eq_of_toNat_eq
  rw [BitVec.toNat_ofInt, BitVec.toNat_ofNat, BitVec.toNat_not]
  omega

theorem carry_of_sub_iff :
    0 ≤ (a.toNat : Int) - m.toNat - (1 - c.toNat) ↔ 256 ≤ a.toNat + (~~~m).toNat + c.toNat := by
  have hm := m.isLt
  rw [BitVec.toNat_not]
  omega

/-- The flags of the subtraction are those of adding the complement (40_engine.md R140, R141). -/
theorem differenceFlags_eq_sumFlags_not : differenceFlags a m c f = sumFlags a (~~~m) c f := by
  have hm := m.isLt
  have hn : (~~~m).toNat = 255 - m.toNat := BitVec.toNat_not
  have hs : (~~~m).toInt = -m.toInt - 1 := by rw [toInt_eq_ite, toInt_eq_ite, hn]; omega
  have hv : a.toInt - m.toInt - (1 - c.toNat) = a.toInt + (~~~m).toInt + c.toNat := by omega
  simp only [differenceFlags, sumFlags, ofInt_sub_eq_ofNat_add_not, carry_of_sub_iff, hv]

theorem subBinary_eq_addBinary_not : subBinary a m c = (addBinary a (~~~m) c f).1 :=
  ofInt_sub_eq_ofNat_add_not a m c

/-- The model's V compares the signs of A and the operand; with the operand complemented it is the V of addition. -/
theorem subFlags_eq_addBinary_not : subFlags a m c f = (addBinary a (~~~m) c f).2 := by
  simp only [subFlags, addBinary, ofInt_sub_eq_ofNat_add_not, carry_of_sub_iff, BitVec.getLsbD_and, BitVec.getLsbD_xor,
    BitVec.getLsbD_not, Nat.reduceLT, decide_true, Bool.true_and]
  congr 2
  cases a.getLsbD 7 <;> cases m.getLsbD 7 <;> simp

theorem subFlags_eq_differenceFlags : subFlags a m c f = differenceFlags a m c f := by
  rw [subFlags_eq_addBinary_not, addBinary_eq, differenceFlags_eq_sumFlags_not]

theorem subDecimalLow_eq : subDecimalLow a m c = decimalLowDiff a m c := by
  rw [subDecimalLow, and_0F_toNat, and_0F_toNat]
  rfl

theorem subDecimal_eq : subDecimal a m c =
    BitVec.ofInt 8 (if decimalDiff a m c < 0 then decimalDiff a m c - 96 else decimalDiff a m c) := by
  rw [subDecimal, subDecimalLow_eq, and_F0_toNat, and_F0_toNat]
  simp only [Nat.cast_mul]
  rfl

/-! ## Two-digit decimal numbers -/

theorem validBcd_iff : validBcd a = true ↔ a.toNat / 16 ≤ 9 ∧ a.toNat % 16 ≤ 9 :=
  decide_eq_true_iff

theorem bcd_of_toNat {h l : Nat} (hh : h ≤ 9) (hl : l ≤ 9) (he : a.toNat = 16 * h + l) :
    validBcd a = true ∧ bcd a = 10 * h + l := by
  rw [validBcd_iff, bcd]
  omega

theorem toNat_decide (p : Prop) [Decidable p] : (decide p).toNat = if p then 1 else 0 := by
  rw [Bool.toNat, Bool.cond_decide]

/-- The low digit of a decimal sum, with its carry (42_alu.md R181). -/
theorem decimalLowSum_eq {d : Nat} (hd : d = a.toNat % 16 + m.toNat % 16 + c.toNat) (hle : d ≤ 19) :
    decimalLowSum a m c = 16 * (d / 10) + d % 10 := by
  rw [decimalLowSum, ← hd]
  split_ifs
  · omega
  · omega

/-- The low digit of a decimal difference, with its borrow (R183). -/
theorem decimalLowDiff_eq {d : Int} (hd : d = (a.toNat % 16 : Nat) - (m.toNat % 16 : Nat) + c.toNat - 1)
    (hlow : -10 ≤ d) (hhigh : d ≤ 9) : decimalLowDiff a m c = 16 * (d / 10) + d % 10 := by
  rw [decimalLowDiff, ← hd]
  split_ifs
  · omega
  · omega

section
variable {a m : Byte} (ha : validBcd a = true) (hm : validBcd m = true)
include ha hm

/-- The digits of a decimal sum, and its hundred at bit 8 (R181). -/
theorem decimalSumAdjusted_digits : ∃ q h l, h ≤ 9 ∧ l ≤ 9 ∧ q ≤ 1 ∧
    decimalSumAdjusted a m c = 256 * q + 16 * h + l ∧ bcd a + bcd m + c.toNat = 100 * q + 10 * h + l := by
  rw [validBcd_iff] at ha hm
  have hc := c.toNat_le
  obtain ⟨d, hd⟩ : ∃ d, d = a.toNat % 16 + m.toNat % 16 + c.toNat := ⟨_, rfl⟩
  obtain ⟨x, hx⟩ : ∃ x, x = a.toNat / 16 + m.toNat / 16 + d / 10 := ⟨_, rfl⟩
  refine ⟨x / 10, x % 10, d % 10, by omega, by omega, by omega, ?_, ?_⟩
  · have ht : decimalSum a m c = 16 * x + d % 10 := by
      rw [decimalSum, decimalLowSum_eq a m c hd (by omega)]
      omega
    rw [decimalSumAdjusted, ht]
    split_ifs
    · omega
    · omega
  · rw [bcd, bcd]
    omega

/-- The digits of a decimal difference modulo 100, and its borrow at bit 8 (R183). -/
theorem decimalDiffAdjusted_digits : ∃ (q : Int) (h l : Nat), h ≤ 9 ∧ l ≤ 9 ∧ -1 ≤ q ∧ q ≤ 0 ∧
    (if decimalDiff a m c < 0 then decimalDiff a m c - 96 else decimalDiff a m c) = 256 * q + 16 * h + l ∧
    (bcd a : Int) - bcd m - (1 - c.toNat) = 100 * q + 10 * h + l := by
  rw [validBcd_iff] at ha hm
  have hc := c.toNat_le
  obtain ⟨d, hd⟩ : ∃ d : Int, d = (a.toNat % 16 : Nat) - (m.toNat % 16 : Nat) + c.toNat - 1 := ⟨_, rfl⟩
  obtain ⟨x, hx⟩ : ∃ x : Int, x = (a.toNat / 16 : Nat) - (m.toNat / 16 : Nat) + d / 10 := ⟨_, rfl⟩
  refine ⟨x / 10, (x % 10).toNat, (d % 10).toNat, by omega, by omega, by omega, by omega, ?_, ?_⟩
  · have ht : decimalDiff a m c = 16 * x + d % 10 := by
      rw [decimalDiff, decimalLowDiff_eq a m c hd (by omega) (by omega)]
      omega
    rw [ht]
    split_ifs
    · omega
    · omega
  · rw [bcd, bcd]
    omega

/-- Two-digit numbers compare as their bytes do, so that the binary C is the decimal one. -/
theorem carry_of_sub_iff_bcd : 0 ≤ (a.toNat : Int) - m.toNat - (1 - c.toNat) ↔
    0 ≤ (bcd a : Int) - bcd m - (1 - c.toNat) := by
  rw [validBcd_iff] at ha hm
  have hc := c.toNat_le
  rw [bcd, bcd]
  omega

theorem bcd_addDecimal : validBcd (addDecimal a m c f).1 = true ∧
    bcd (addDecimal a m c f).1 + 100 * (addDecimal a m c f).2.c.toNat = bcd a + bcd m + c.toNat := by
  obtain ⟨q, h, l, hh, hl, hq, hadj, hsum⟩ := decimalSumAdjusted_digits c ha hm
  rw [addDecimal_eq]
  dsimp only
  rw [hadj, toNat_decide, hsum]
  obtain ⟨hvalid, hbcd⟩ := bcd_of_toNat (BitVec.ofNat 8 (256 * q + 16 * h + l)) hh hl
    (by rw [BitVec.toNat_ofNat]; omega)
  refine ⟨hvalid, ?_⟩
  rw [hbcd]
  split_ifs
  · omega
  · omega

theorem bcd_subDecimal : validBcd (subDecimal a m c) = true ∧
    (bcd (subDecimal a m c) : Int) - 100 * (1 - (subFlags a m c f).c.toNat) =
      (bcd a : Int) - bcd m - (1 - c.toNat) := by
  obtain ⟨q, h, l, hh, hl, hq1, hq0, hadj, hdiff⟩ := decimalDiffAdjusted_digits c ha hm
  have hcarry : (subFlags a m c f).c = decide (0 ≤ 100 * q + 10 * h + l) :=
    decide_eq_decide.2 (hdiff ▸ carry_of_sub_iff_bcd c ha hm)
  rw [subDecimal_eq, hadj, hcarry, toNat_decide, hdiff]
  obtain ⟨hvalid, hbcd⟩ := bcd_of_toNat (BitVec.ofInt 8 (256 * q + 16 * h + l)) hh hl
    (by rw [BitVec.toNat_ofInt]; omega)
  refine ⟨hvalid, ?_⟩
  rw [hbcd]
  split_ifs
  · omega
  · omega

end

/-! ## Compare and bit test -/

theorem compareFlags_eq : compareFlags g m f =
    { f with
      c := decide (m.toNat ≤ g.toNat)
      z := decide (g = m)
      n := decide (128 ≤ ((g.toNat : Int) - m.toNat) % 256) } := by
  have hz : ((g - m).toNat = 0) = (g = m) := propext (by bv_omega)
  have hn : (128 ≤ (g - m).toNat) = (128 ≤ ((g.toNat : Int) - m.toNat) % 256) := propext (by
    have hg := g.isLt
    have hm := m.isLt
    rw [BitVec.toNat_sub]
    omega)
  simp only [compareFlags, setZN_eq_withZN, withZN, hz, hn]

theorem bitFlags_eq : bitFlags a m f =
    { f with
      z := decide (a &&& m = 0)
      n := decide (m.toNat / 128 % 2 = 1)
      v := decide (m.toNat / 64 % 2 = 1) } := by
  simp only [bitFlags, getLsbD_eq_decide]
  rfl

/-! ## Increment, decrement, shifts and rotates -/

theorem add_one_eq_ofNat : v + 1#8 = BitVec.ofNat 8 (v.toNat + 1) := by
  rw [BitVec.ofNat_add, BitVec.ofNat_toNat, BitVec.setWidth_eq]

theorem sub_one_eq_ofInt : v - 1#8 = BitVec.ofInt 8 (v.toNat - 1) := by
  have hv := v.isLt
  apply BitVec.eq_of_toNat_eq
  rw [BitVec.toNat_sub, BitVec.toNat_ofInt, BitVec.toNat_ofNat]
  omega

theorem incByte_eq : incByte v f = (BitVec.ofNat 8 (v.toNat + 1), withZN (BitVec.ofNat 8 (v.toNat + 1)) f) := by
  rw [incByte, setZN_eq_withZN, add_one_eq_ofNat]

theorem decByte_eq : decByte v f = (BitVec.ofInt 8 (v.toNat - 1), withZN (BitVec.ofInt 8 (v.toNat - 1)) f) := by
  rw [decByte, setZN_eq_withZN, sub_one_eq_ofInt]

/-- What a shift or rotate does with its operand and the old flags, on numbers. -/
def shiftOf (mn : Mnemonic) (v : Byte) (f : Flags) : Byte × Flags :=
  (shifted mn v f.c, { withZN (shifted mn v f.c) f with c := shiftedOut mn v })

theorem shiftLeft_eq_shifted : v <<< 1 = shifted .ASL v c := by
  apply BitVec.eq_of_toNat_eq
  simp [shifted, Nat.shiftLeft_eq, Nat.mul_comm]

theorem ushiftRight_eq_shifted : v >>> 1 = shifted .LSR v c := by
  apply BitVec.eq_of_toNat_eq
  simp [shifted]
  omega

theorem rotateLeft_eq_shifted : (v <<< 1) ||| BitVec.ofNat 8 c.toNat = shifted .ROL v c := by
  revert v c; decide

theorem rotateRight_eq_shifted : (v >>> 1) ||| BitVec.ofNat 8 c.toNat <<< 7 = shifted .ROR v c := by
  revert v c; decide

theorem bit_zero_eq : v.getLsbD 0 = decide (v.toNat % 2 = 1) := by
  rw [getLsbD_eq_decide, pow_zero, Nat.div_one]

theorem aslByte_eq : aslByte = shiftOf .ASL := by
  funext v f
  rw [aslByte, shiftLeft_eq_shifted v f.c, setZN_eq_withZN, getLsbD_seven]
  rfl

theorem lsrByte_eq : lsrByte = shiftOf .LSR := by
  funext v f
  rw [lsrByte, ushiftRight_eq_shifted v f.c, setZN_eq_withZN, bit_zero_eq]
  rfl

theorem rolByte_eq : rolByte = shiftOf .ROL := by
  funext v f
  rw [rolByte, rotateLeft_eq_shifted, setZN_eq_withZN, getLsbD_seven]
  rfl

theorem rorByte_eq : rorByte = shiftOf .ROR := by
  funext v f
  rw [rorByte, rotateRight_eq_shifted, setZN_eq_withZN, bit_zero_eq]
  rfl

end Sys2Proof.Machine
end

section
/-! SUPPORT. Add and subtract (42_alu.md R180 to R185). -/

namespace Sys2Proof.Machine

open Sys2Proof.Statements

variable {i : Instr} {st : State} {r : Byte × State}

/-! ## Which of the modes runs -/

theorem addWithCarry_binary (hd : r.2.flags.d = false) : addWithCarry r =
    .next { r.2 with
      a := (addBinary r.2.a r.1 r.2.flags.c r.2.flags).1
      flags := (addBinary r.2.a r.1 r.2.flags.c r.2.flags).2 } := by
  simp [addWithCarry, hd]

theorem addWithCarry_decimal (hd : r.2.flags.d = true) (hm : r.2.cfg.decimalMode = .nmos) : addWithCarry r =
    .next { r.2 with
      a := (addDecimal r.2.a r.1 r.2.flags.c r.2.flags).1
      flags := (addDecimal r.2.a r.1 r.2.flags.c r.2.flags).2 } := by
  simp [addWithCarry, hd, hm]

theorem addWithCarry_refused (hd : r.2.flags.d = true) (hm : r.2.cfg.decimalMode = .refuse) :
    addWithCarry r = .refused .decimalRefused := by
  simp [addWithCarry, hd, hm]

theorem subWithBorrow_binary (hd : r.2.flags.d = false) : subWithBorrow r =
    .next { r.2 with
      a := subBinary r.2.a r.1 r.2.flags.c
      flags := subFlags r.2.a r.1 r.2.flags.c r.2.flags } := by
  simp [subWithBorrow, hd]

theorem subWithBorrow_decimal (hd : r.2.flags.d = true) (hm : r.2.cfg.decimalMode = .nmos) : subWithBorrow r =
    .next { r.2 with
      a := subDecimal r.2.a r.1 r.2.flags.c
      flags := subFlags r.2.a r.1 r.2.flags.c r.2.flags } := by
  simp [subWithBorrow, hd, hm]

theorem subWithBorrow_refused (hd : r.2.flags.d = true) (hm : r.2.cfg.decimalMode = .refuse) :
    subWithBorrow r = .refused .decimalRefused := by
  simp [subWithBorrow, hd, hm]

/-! ## ADC and SBC -/

theorem exec_ADC_spent (h : i.mnemonic = .ADC) (st : State) : exec i st =
    addWithCarry (operandValue st i.mode, spent st i.mode.operandBytes (readCycles st i.mode)) := by
  rw [exec_ADC st h, readOf_eq_spent (mode_of_reader (h ▸ rfl)) st]

theorem exec_SBC_spent (h : i.mnemonic = .SBC) (st : State) : exec i st =
    subWithBorrow (operandValue st i.mode, spent st i.mode.operandBytes (readCycles st i.mode)) := by
  rw [exec_SBC st h, readOf_eq_spent (mode_of_reader (h ▸ rfl)) st]

/-- Settles O32: the operand of any of the eight forms, and the adder of the mode on it. -/
theorem adcAddsInBothModes : Obligations.AdcAddsInBothModes := by
  refine ⟨fun b v w => ?_, onlyNmos151_of_not_mem (by decide) (by decide), fun i st h => ?_⟩
  · rw [← lo8_eq_lo, ← hi8_eq_hi]
    and_intros
    all_goals rfl
  · rw [exec_ADC_spent h]
    refine ⟨fun hd => ?_, fun hd hm => ?_, fun hd hm => addWithCarry_refused hd hm⟩
    · rw [addWithCarry_binary hd, addBinary_eq]
      rfl
    · rw [addWithCarry_decimal hd hm, addDecimal_eq]
      rfl

/-- Settles O34: as for ADC, with the subtractor. -/
theorem sbcSubtractsInBothModes : Obligations.SbcSubtractsInBothModes := by
  refine ⟨fun b v w => ?_, onlyNmos151_of_not_mem (by decide) (by decide), fun i st h => ?_⟩
  · rw [← lo8_eq_lo, ← hi8_eq_hi]
    and_intros
    all_goals rfl
  · rw [exec_SBC_spent h]
    refine ⟨fun hd => ?_, fun hd hm => ?_, fun hd hm => subWithBorrow_refused hd hm⟩
    · rw [subWithBorrow_binary hd, subFlags_eq_differenceFlags]
      rfl
    · rw [subWithBorrow_decimal hd hm, subDecimal_eq, subFlags_eq_differenceFlags]
      rfl

/-- Settles O33: of two digits each, the decimal adder gives the digits and the hundred of the sum. -/
theorem adcAddsDecimalNumbers : Obligations.AdcAddsDecimalNumbers := by
  intro i st h hd hm ha hv
  rw [exec_ADC_spent h]
  exact ⟨_, addWithCarry_decimal hd hm, bcd_addDecimal _ _ ha hv⟩

/-- Settles O35: likewise the decimal subtractor, C being 0 when the difference is negative. -/
theorem sbcSubtractsDecimalNumbers : Obligations.SbcSubtractsDecimalNumbers := by
  intro i st h hd hm ha hv
  rw [exec_SBC_spent h]
  exact ⟨_, subWithBorrow_decimal hd hm, bcd_subDecimal _ _ ha hv⟩

/-- Settles O36: of a loaded operand, `subBinary` and `subFlags` are `addBinary` of the complement. -/
theorem sbcIsAdcOfTheComplement : Obligations.SbcIsAdcOfTheComplement := by
  intro st v hd
  rw [exec_SBC_spent rfl, exec_ADC_spent rfl, subWithBorrow_binary hd, addWithCarry_binary hd,
    subBinary_eq_addBinary_not, subFlags_eq_addBinary_not]
  rfl

end Sys2Proof.Machine
end

section
/-! SUPPORT. Logic, compare and bit test (42_alu.md R186 to R192). -/

namespace Sys2Proof.Machine

open Sys2Proof.Statements

variable {i : Instr}

theorem exec_AND_ORA_EOR {r : Byte} (st : State)
    (h : i.mnemonic = .AND ∧ r = st.a &&& operandValue st i.mode ∨
      i.mnemonic = .ORA ∧ r = st.a ||| operandValue st i.mode ∨
      i.mnemonic = .EOR ∧ r = st.a ^^^ operandValue st i.mode) :
    exec i st = .next
      { spent st i.mode.operandBytes (readCycles st i.mode) with a := r, flags := setZN r st.flags } := by
  obtain ⟨h, rfl⟩ | ⟨h, rfl⟩ | ⟨h, rfl⟩ := h
  · rw [exec_AND st h, readOf_eq_spent (mode_of_reader (h ▸ rfl)) st, logicA]
    rfl
  · rw [exec_ORA st h, readOf_eq_spent (mode_of_reader (h ▸ rfl)) st, logicA]
    rfl
  · rw [exec_EOR st h, readOf_eq_spent (mode_of_reader (h ▸ rfl)) st, logicA]
    rfl

/-- Settles O37: the operation of A with the operand of any form, and Z and N from its result. -/
theorem logicOnTheAccumulator : Obligations.LogicOnTheAccumulator := by
  refine ⟨fun b v w => ?_, onlyNmos151_of_not_mem (by decide) (by decide), fun i st r h => ?_⟩
  · rw [← lo8_eq_lo, ← hi8_eq_hi]
    and_intros
    all_goals rfl
  · rw [exec_AND_ORA_EOR st h, setZN_eq_withZN]

theorem exec_CMP_CPX_CPY {g : Byte} (st : State)
    (h : i.mnemonic = .CMP ∧ g = st.a ∨ i.mnemonic = .CPX ∧ g = st.x ∨ i.mnemonic = .CPY ∧ g = st.y) :
    exec i st = .next
      { spent st i.mode.operandBytes (readCycles st i.mode) with
        flags := compareFlags g (operandValue st i.mode) st.flags } := by
  obtain ⟨h, rfl⟩ | ⟨h, rfl⟩ | ⟨h, rfl⟩ := h
  · rw [exec_CMP st h, readOf_eq_spent (mode_of_reader (h ▸ rfl)) st, compareWith]
    rfl
  · rw [exec_CPX st h, readOf_eq_spent (mode_of_reader (h ▸ rfl)) st, compareWith]
    rfl
  · rw [exec_CPY st h, readOf_eq_spent (mode_of_reader (h ▸ rfl)) st, compareWith]
    rfl

/-- Settles O38: the register against the operand of any form; D is not read. -/
theorem comparesSetCarryZeroNegative : Obligations.ComparesSetCarryZeroNegative := by
  refine ⟨fun b v w => ?_, onlyNmos151_of_not_mem (by decide) (by decide), fun i st g h => ?_⟩
  · rw [← lo8_eq_lo, ← hi8_eq_hi]
    and_intros
    all_goals rfl
  · rw [exec_CMP_CPX_CPY st h, compareFlags_eq]

/-- Settles O39: the operand of either form, and Z, N and V from it; no profile has a handler for 0x89. -/
theorem bitTestsMemory : Obligations.BitTestsMemory := by
  refine ⟨fun b w => ?_, onlyNmos151_of_not_mem (by decide) (by decide), fun p b => ?_, fun i st h => ?_⟩
  · rw [← lo8_eq_lo, ← hi8_eq_hi]
    and_intros
    all_goals rfl
  · rw [decode_eq_unknownOpcode_iff]
    cases p <;> rfl
  · rw [exec_BIT st h, readOf_eq_spent (mode_of_reader (h ▸ rfl)) st, bitTest, bitFlags_eq]
    rfl

end Sys2Proof.Machine
end

section
/-! SUPPORT. Increment, decrement, shifts and rotates, of memory and of registers (42_alu.md R193 to R202). -/

namespace Sys2Proof.Machine

open Sys2Proof.Statements

variable {i : Instr} {m : AddrMode} {f : Byte → Flags → Byte × Flags}

/-! ## Modify -/

/-- The modes of the read-modify-write instructions are those that have a count in their "cycles" column. -/
theorem rmwCycles_ne_zero (hk : i.mnemonic ∈ [.INC, .DEC, .ASL, .LSR, .ROL, .ROR]) (hm : i.mode = .mem m) :
    rmwCycles m ≠ 0 := by
  cases i <;> cases hm
  all_goals
    revert hk
    simp [Instr.mnemonic, Instr.form, rmwCycles]

/-- Of the total of a read-modify-write instruction, the opcode fetch, the read, the dummy write and the write are not
the mode's own (40_engine.md R137). -/
theorem resolveCost_rmw (h : rmwCycles m ≠ 0) (st : State) : resolveCost m .rmw st = rmwCycles m - 4 := by
  cases m with
  | zp | zpX | abs => rfl
  | absX => rw [resolveCost, indexCost_of_ne_read (by decide)]; rfl
  | zpY | absY | indX | indY => exact absurd rfl h

/-- Modify of a memory byte spends the operand bytes and the cycles and replaces the byte at the effective address. -/
theorem modifyMem_eq_poke (h : rmwCycles m ≠ 0) (st : State) : modifyMem m f st =
    ({ spent st m.operandBytes (rmwCycles m) with flags := (f (st.peek (effAddr st m)) st.flags).2 } : State).poke
      (effAddr st m) (f (st.peek (effAddr st m)) st.flags).1 := by
  have hc : st.cycles - (rmwCycles m - 4) - 3 = st.cycles - (rmwCycles m - 1) := by omega
  rw [modifyMem_eq, resolve_fst_eq_effAddr, resolveCost_rmw h, hc]
  rfl

theorem tick_eq_spent (st : State) : st.tick = spent st 0 2 := by
  simp [State.tick, spent]

theorem modifyAcc_eq_spent (st : State) : modifyAcc f st =
    { spent st 0 2 with a := (f st.a st.flags).1, flags := (f st.a st.flags).2 } := by
  rw [modifyAcc, tick_eq_spent]
  rfl

/-- Every read-modify-write instruction on memory, from what its function makes of the byte. -/
theorem exec_modifyMem {st : State} {r : Byte} {fl : Flags}
    (hk : i.mnemonic ∈ [.INC, .DEC, .ASL, .LSR, .ROL, .ROR]) (hm : i.mode = .mem m)
    (hx : exec i st = .next (modifyOf i.mode f st)) (hf : f (st.peek (effAddr st m)) st.flags = (r, fl)) :
    ∃ t, exec i st = .next t ∧
      t = { spent st m.operandBytes (rmwCycles m) with mem := t.mem, flags := fl } ∧
      (Memory.wf st.mem = true → ∀ a : Word, t.peek a = if a = effAddr st m then r else st.peek a) := by
  rw [hx, hm, modifyOf, modifyMem_eq_poke (rmwCycles_ne_zero hk hm), hf]
  exact ⟨_, rfl, rfl, fun hw a =>
    State.peek_poke (st := { spent st m.operandBytes (rmwCycles m) with flags := fl }) hw (effAddr st m) a r⟩

/-! ## Increment and decrement -/

/-- Settles O40: a byte of memory modified by `incByte` or `decByte`. -/
theorem incAndDecModifyMemory : Obligations.IncAndDecModifyMemory := by
  refine ⟨fun b w => ?_, onlyNmos151_of_not_mem (by decide) (by decide), fun i st m r hm h => ?_⟩
  · rw [← lo8_eq_lo, ← hi8_eq_hi]
    and_intros
    all_goals rfl
  · obtain ⟨h, rfl⟩ | ⟨h, rfl⟩ := h
    · exact exec_modifyMem (by simp [h]) hm (exec_INC st h) (incByte_eq ..)
    · exact exec_modifyMem (by simp [h]) hm (exec_DEC st h) (decByte_eq ..)

/-- Settles O41: the register's successor or predecessor modulo 256, in the one cycle after the opcode fetch. -/
theorem incAndDecOfIndexRegisters : Obligations.IncAndDecOfIndexRegisters := by
  refine ⟨⟨rfl, rfl, rfl, rfl⟩, onlyNmos151_of_not_mem (by decide) (by decide), fun st => ?_⟩
  simp only [← tick_eq_spent, ← add_one_eq_ofNat, ← sub_one_eq_ofInt, ← setZN_eq_withZN]
  exact ⟨rfl, rfl, rfl, rfl⟩

/-! ## Shifts and rotates -/

theorem exec_shift (h : i.mnemonic ∈ shifts) (st : State) :
    exec i st = .next (modifyOf i.mode (shiftOf i.mnemonic) st) := by
  simp only [shifts, List.mem_cons, List.not_mem_nil, or_false] at h
  obtain h | h | h | h := h
  · rw [exec_ASL st h, h, aslByte_eq]
  · rw [exec_LSR st h, h, lsrByte_eq]
  · rw [exec_ROL st h, h, rolByte_eq]
  · rw [exec_ROR st h, h, rorByte_eq]

/-- Settles O42: A or a byte of memory modified by `shiftOf`. -/
theorem shiftsAndRotates : Obligations.ShiftsAndRotates := by
  refine ⟨fun b w => ?_, onlyNmos151_of_not_mem (by decide) (by decide), fun i st h => ⟨fun ha => ?_, fun m hm => ?_⟩⟩
  · rw [← lo8_eq_lo, ← hi8_eq_hi]
    and_intros
    all_goals rfl
  · rw [exec_shift h, ha, modifyOf, modifyAcc_eq_spent]
    rfl
  · exact exec_modifyMem (List.mem_cons_of_mem _ (List.mem_cons_of_mem _ h)) hm (exec_shift h st) rfl

end Sys2Proof.Machine
end

section
/-! SUPPORT. The stack page on numbers (10_state.md R27), and what pushes leave in it (40_engine.md R121). -/

namespace Sys2Proof.Machine

open Sys2Proof.Statements

variable (st : State)

/-! ## Addresses -/

theorem stackAddr_eq_page1 (s : Byte) : stackAddr s = page1 s := by
  rw [page1, ← stackAddr_toNat, BitVec.ofNat_toNat, BitVec.setWidth_eq]

theorem page1_inj {s s' : Byte} : page1 s = page1 s' ↔ s = s' := by
  rw [← stackAddr_eq_page1, ← stackAddr_eq_page1, stackAddr_inj]

theorem page1_ne {s s' : Byte} (hne : s ≠ s') : page1 s ≠ page1 s' := mt page1_inj.1 hne

/-- Cases on two addresses of the stack page stand in either order. -/
theorem ite_page1_comm {s s' : Byte} (hne : s ≠ s') (c : Word) (u v w : Byte) :
    (if c = page1 s then u else if c = page1 s' then v else w) =
      if c = page1 s' then v else if c = page1 s then u else w :=
  ite_ite_comm _ _ _ _ fun hc hc' => page1_ne hne (hc.symm.trans hc')

theorem word_hi_lo (w : Word) : word (hi w) (lo w) = w := by
  rw [← mkWord_eq_word, ← hi8_eq_hi, ← lo8_eq_lo, mkWord_hi8_lo8]

/-! ## Pushes -/

/-- Two pushes leave their bytes at the old stack top and below it, all else as before. -/
theorem push_push_peek (h : Memory.wf st.mem = true) (u v : Byte) (c : Word) :
    (push v (push u st)).peek c =
      if c = page1 st.s then u else if c = page1 (st.s - 1) then v else st.peek c := by
  have hne : st.s - 1 ≠ st.s := by bv_omega
  rw [push_peek _ v (push_wf st u h), push_peek st u h, stackAddr_eq_page1, stackAddr_eq_page1]
  exact ite_page1_comm hne c v u _

/-- The three bytes of BRK's frame from the old stack top down, all else as before. -/
theorem breakFrame_read_downwards (h : Memory.wf st.mem = true) (c : Word) :
    Memory.read (breakFrame st) c.toNat =
      if c = page1 st.s then hi st.pc
      else if c = page1 (st.s - 1) then lo st.pc
      else if c = page1 (st.s - 2) then statusByte st.flags
      else st.peek c := by
  have h2 := push_wf (push (hi8 st.pc) st) (lo8 st.pc) (push_wf st (hi8 st.pc) h)
  have hs : (push (lo8 st.pc) (push (hi8 st.pc) st)).s = st.s - 2 := sub_sub st.s 1 1
  have hne : st.s - 2 ≠ st.s := by bv_omega
  have hne' : st.s - 2 ≠ st.s - 1 := by bv_omega
  rw [breakFrame, ← State.peek_eq_read, push_peek _ _ h2, push_push_peek st h, hs, stackAddr_eq_page1,
    ite_page1_comm hne, ite_page1_comm hne', hi8_eq_hi, lo8_eq_lo, packP_true_eq_statusByte]

end Sys2Proof.Machine
end

section
/-! SUPPORT. The control transfers (43_control.md R220 to R235). -/

namespace Sys2Proof.Machine

open Sys2Proof.Statements

variable (st : State)

/-! ## JMP and NOP -/

/-- Settles O49: the one cycle after the opcode fetch. -/
theorem nopOnlyTakesTwoCycles : Obligations.NopOnlyTakesTwoCycles :=
  ⟨rfl, onlyNmos151_of_not_mem (by decide) (by decide), fun st => congrArg Host.Outcome.next (tick_eq_spent st)⟩

theorem exec_jmpAbs (w : Word) : exec (.jmpAbs w) st = .next { spent st 0 3 with pc := w } := by
  have h : exec (.jmpAbs w) st = .next { st with pc := w, cycles := st.cycles - 1 - 1 } := rfl
  rw [h, Int.sub_sub]
  rfl

theorem exec_jmpInd (w : Word) : exec (.jmpInd w) st =
    .next { spent st 0 5 with pc := word (st.peek (word (hi w) (lo w + 1))) (st.peek w) } := by
  have h : exec (.jmpInd w) st = .next { (indirectTarget w st).2 with pc := (indirectTarget w st).1 } := rfl
  simp only [h, indirectTarget_eq, Int.sub_sub, hi8_eq_hi, lo8_eq_lo, mkWord_eq_word]
  rfl

/-- Settles O44: the target is the operand, or the word at the pointer. -/
theorem jmpSetsThePC : Obligations.JmpSetsThePC := by
  refine ⟨fun w => ?_, onlyNmos151_of_not_mem (by decide) (by decide), fun st w =>
    ⟨exec_jmpAbs st w, exec_jmpInd st w⟩⟩
  rw [← lo8_eq_lo, ← hi8_eq_hi]
  exact ⟨rfl, rfl⟩

/-! ## Branches -/

/-- Each of the eight branches is `branchIf` with its condition, which `branchTaken` writes as a comparison of the
flag. -/
theorem exec_branch {i : Instr} {off : Byte} (hm : i.mode = .rel off) :
    exec i st = .next (branchIf (branchTaken i.mnemonic st.flags) off st) := by
  cases i <;> cases hm
  case bpl | bvc | bcc | bne =>
    exact congrArg (fun taken => Host.Outcome.next (branchIf taken off st)) (beq_false _).symm
  case bmi | bvs | bcs | beq =>
    exact congrArg (fun taken => Host.Outcome.next (branchIf taken off st)) (beq_true _).symm

/-- A branch taken, with the cycles of the rule's table (R223). -/
theorem branchIf_true_eq_spent {off : Byte} {target : Word} (ht : target = st.pc + 1#16 + BitVec.ofInt 16 off.toInt) :
    branchIf true off st =
      { spent st 1 (if page target = page (st.pc + 1#16) then 3 else 4) with pc := target } := by
  have hsext : sext off = BitVec.ofInt 16 off.toInt := rfl
  rw [branchIf_taken, hsext, ← ht]
  by_cases hp : page target = page (st.pc + 1#16)
  · rw [if_pos hp, if_pos (hi8_eq_hi8_iff_page_eq.2 hp)]
    rfl
  · rw [if_neg hp, if_neg (mt hi8_eq_hi8_iff_page_eq.1 hp)]
    rfl

/-- Settles O46: taken, as `branchIf_true_eq_spent` has it; not taken, the offset fetched and no more. -/
theorem branchesGoWhenTheirFlagSays : Obligations.BranchesGoWhenTheirFlagSays := by
  refine ⟨fun off => ?_, onlyNmos151_of_not_mem (by decide) (by decide), fun i st off hm => ?_⟩
  · and_intros
    all_goals rfl
  · rw [exec_branch st hm]
    cases branchTaken i.mnemonic st.flags with
    | true => exact congrArg Host.Outcome.next (branchIf_true_eq_spent st rfl)
    | false => rfl

/-! ## JSR and RTS -/

theorem jumpSubroutine_eq_spent (w : Word) : jumpSubroutine w st =
    { spent st 0 6 with pc := w, s := st.s - 2, mem := (jumpSubroutine w st).mem } := by
  simp only [jumpSubroutine_eq, sub_sub]
  rfl

/-- Settles O43: the two pushes of `jumpSubroutine`. -/
theorem jsrPushesTheReturnAddress : Obligations.JsrPushesTheReturnAddress := by
  refine ⟨fun w => ?_, fun w => ⟨rfl, rfl⟩, fun st w =>
    ⟨jumpSubroutine w st, rfl, jumpSubroutine_eq_spent st w, fun h a => ?_⟩⟩
  · rw [← lo8_eq_lo, ← hi8_eq_hi]
    rfl
  · rw [State.peek_congr (jumpSubroutine_mem w st), push_push_peek st h, hi8_eq_hi, lo8_eq_lo]
    rfl

/-- Settles O45: the two pulls of `returnSubroutine`. -/
theorem rtsPullsTheReturnAddress : Obligations.RtsPullsTheReturnAddress := by
  refine ⟨rfl, onlyNmos151_of_not_mem (by decide) (by decide), fun st => ?_⟩
  have h : exec .rts st = .next (returnSubroutine st) := rfl
  rw [h, returnSubroutine_eq]
  simp only [add_assoc, Int.sub_sub, mkWord_eq_word, stackAddr_eq_page1]
  rfl

/-- Settles O50: by O43 the two bytes under the stack top are the word O45 pulls. -/
theorem rtsAfterJsrReturns : Obligations.RtsAfterJsrReturns := by
  intro st w h
  obtain ⟨-, -, hjsr⟩ := jsrPushesTheReturnAddress
  obtain ⟨-, -, hrts⟩ := rtsPullsTheReturnAddress
  obtain ⟨t, hx, ht, hpeek⟩ := hjsr st w
  have hpop : st.s - 2 + 1 = st.s - 1 := by bv_omega
  have hlow : t.peek (page1 (st.s - 1)) = lo (st.pc + 1) := by
    rw [hpeek h, if_neg (page1_ne (by bv_omega)), if_pos rfl]
  have hhigh : t.peek (page1 st.s) = hi (st.pc + 1) := by rw [hpeek h, if_pos rfl]
  have hs : t.s = st.s - 2 := by rw [ht]
  refine ⟨t, _, hx, hrts t.fetched, ?_⟩
  rw [State.fetched_peek, State.fetched_peek, State.fetched_s, hs, hpop, sub_add_cancel, hlow, hhigh, word_hi_lo,
    add_assoc, ht]
  simp only [spent, State.fetched, sub_sub]
  rfl

/-! ## BRK and RTI -/

/-- The vector is outside the stack page, so the frame leaves it as it was. -/
theorem takeBreak_pc (h : Memory.wf st.mem = true) :
    (takeBreak st).pc = mkWord (st.peek (brkVector + 1#16)) (st.peek brkVector) := by
  have hpc : (takeBreak st).pc = mkWord ((takeBreak st).peek (brkVector + 1#16)) ((takeBreak st).peek brkVector) := by
    rw [takeBreak_eq]
    rfl
  rw [hpc, takeBreak_peek_of_page_ne h (by decide), takeBreak_peek_of_page_ne h (by decide)]

theorem takeBreak_eq_spent : takeBreak st.fetched =
    { spent st 0 7 with
      pc := (takeBreak st.fetched).pc, s := st.s - 3, flags := { st.flags with i := true }
      mem := (takeBreak st.fetched).mem } := by
  simp only [takeBreak_eq, State.fetched_s, sub_sub, State.fetched_cycles]
  rfl

/-- Settles O48: the three pulls of `returnFromBreak`, after two internal cycles. -/
theorem rtiRestoresStatusAndPC : Obligations.RtiRestoresStatusAndPC := by
  refine ⟨rfl, onlyNmos151_of_not_mem (by decide) (by decide), fun st => ?_⟩
  have h : exec .rti st = .next (returnFromBreak st.tick.tick) := rfl
  rw [h, returnFromBreak_eq]
  simp only [State.tick_s, State.tick_cycles, State.tick_peek, add_assoc, sub_sub, mkWord_eq_word, stackAddr_eq_page1,
    unpackP_eq_fromStatusByte]
  rfl

/-- Settles O47: the frame of `takeBreak`, which the vector is not in. -/
theorem brkTakesTheTrap : Obligations.BrkTakesTheTrap := by
  refine ⟨rfl, onlyNmos151_of_not_mem (by decide) (by decide), fun st =>
    ⟨takeBreak st.fetched, rfl, takeBreak_eq_spent st, fun h => ⟨?_, fun a => ?_⟩⟩⟩
  · rw [takeBreak_pc st.fetched h, mkWord_eq_word]
    rfl
  · rw [State.peek_eq_read, takeBreak_eq]
    exact breakFrame_read_downwards st.fetched h a

/-- Settles O51: by O47 the three bytes under the stack top are those O48 pulls, and the status byte holds each flag
but the stored B, which neither writes. -/
theorem rtiAfterBrkReturns : Obligations.RtiAfterBrkReturns := by
  intro st h
  obtain ⟨-, -, hbrk⟩ := brkTakesTheTrap
  obtain ⟨-, -, hrti⟩ := rtiRestoresStatusAndPC
  obtain ⟨t, hx, ht, hw⟩ := hbrk st
  obtain ⟨-, hpeek⟩ := hw h
  have hpop : st.s - 3 + 1 = st.s - 2 := by bv_omega
  have hpop' : st.s - 3 + 2 = st.s - 1 := by bv_omega
  have hstatus : t.peek (page1 (st.s - 2)) = statusByte st.flags := by
    rw [hpeek, if_neg (page1_ne (by bv_omega)), if_neg (page1_ne (by bv_omega)), if_pos rfl]
  have hlow : t.peek (page1 (st.s - 1)) = lo (st.pc + 1) := by
    rw [hpeek, if_neg (page1_ne (by bv_omega)), if_pos rfl]
  have hhigh : t.peek (page1 st.s) = hi (st.pc + 1) := by rw [hpeek, if_pos rfl]
  have hs : t.s = st.s - 3 := by rw [ht]
  have hflags : fromStatusByte (statusByte st.flags) t.flags = st.flags := by
    rw [← packP_true_eq_statusByte, ← unpackP_eq_fromStatusByte, unpackP_packP, ht]
  refine ⟨t, _, hx, hrti t.fetched, ?_⟩
  rw [State.fetched_peek, State.fetched_peek, State.fetched_peek, State.fetched_s, State.fetched_flags, hs, hpop, hpop',
    sub_add_cancel, hlow, hhigh, hstatus, hflags, word_hi_lo, ht]
  simp only [spent, State.fetched, sub_sub]
  rfl

end Sys2Proof.Machine
end

section
/-! SUPPORT. The stack, register-transfer and flag instructions (44_stack_transfer_flags.md R250 to R266). -/

namespace Sys2Proof.Machine

open Sys2Proof.Statements

variable (st : State)

theorem spent_tick (n : Nat) (total : Int) : (spent st n total).tick = spent st n (total + 1) := by
  have h : st.cycles - (total - 1) - 1 = st.cycles - (total + 1 - 1) := by omega
  rw [State.tick, spent, h]
  rfl

/-! ## PHA and PHP -/

/-- The push after one internal cycle that PHA and PHP both are (R250, R252). -/
theorem push_tick_eq_spent (v : Byte) : push v st.tick =
    { spent st 0 3 with s := st.s - 1, mem := (push v st.tick).mem } := by
  have h : push v st.tick = { st.tick.tick with s := st.s - 1, mem := (push v st.tick).mem } := rfl
  rw [h, tick_eq_spent st, spent_tick]
  rfl

theorem push_tick_peek (h : Memory.wf st.mem = true) (v : Byte) (a : Word) :
    (push v st.tick).peek a = if a = page1 st.s then v else st.peek a := by
  rw [← stackAddr_eq_page1]
  exact push_peek st.tick v h a

/-- Settles O52: one push, of A or of the status byte. -/
theorem pushesOfAccumulatorAndStatus : Obligations.PushesOfAccumulatorAndStatus := by
  refine ⟨⟨rfl, rfl⟩, onlyNmos151_of_not_mem (by decide) (by decide), fun st i v hi => ?_⟩
  have hx : exec i st = .next (push v st.tick) := by
    obtain ⟨rfl, rfl⟩ | ⟨rfl, rfl⟩ := hi
    · rfl
    · rw [← packP_true_eq_statusByte]
      rfl
  exact ⟨_, hx, push_tick_eq_spent st v, fun h => push_tick_peek st h v⟩

/-! ## PLA and PLP -/

/-- The pull after two internal cycles that PLA and PLP both are (R251, R253). -/
theorem pull_tick_tick_eq_spent : pull st.tick.tick =
    (st.peek (page1 (st.s + 1)), { spent st 0 4 with s := st.s + 1 }) := by
  have h : pull st.tick.tick = (st.peek (stackAddr (st.s + 1)), { st.tick.tick.tick with s := st.s + 1 }) := rfl
  rw [h, tick_eq_spent st, spent_tick, spent_tick, stackAddr_eq_page1]
  rfl

theorem exec_pla : exec .pla st = .next
    { spent st 0 4 with
      s := st.s + 1
      a := st.peek (page1 (st.s + 1))
      flags := withZN (st.peek (page1 (st.s + 1))) st.flags } := by
  have h : exec .pla st = .next (pullA st.tick.tick) := rfl
  rw [h, pullA, pull_tick_tick_eq_spent, setZN_eq_withZN]
  rfl

theorem exec_plp : exec .plp st = .next
    { spent st 0 4 with
      s := st.s + 1
      flags := fromStatusByte (st.peek (page1 (st.s + 1))) st.flags } := by
  have h : exec .plp st = .next (pullP st.tick.tick) := rfl
  rw [h, pullP, pull_tick_tick_eq_spent, unpackP_eq_fromStatusByte]
  rfl

/-- Settles O53: one pull after two internal cycles. -/
theorem pullsOfAccumulatorAndStatus : Obligations.PullsOfAccumulatorAndStatus :=
  ⟨⟨rfl, rfl⟩, onlyNmos151_of_not_mem (by decide) (by decide), fun st => ⟨exec_pla st, exec_plp st⟩⟩

/-! ## A pull after a push -/

/-- The status byte holds every flag but the stored B. -/
theorem fromStatusByte_statusByte (f g : Flags) : fromStatusByte (statusByte f) g = { f with b := g.b } := by
  rw [← packP_true_eq_statusByte, ← unpackP_eq_fromStatusByte, unpackP_packP]

/-- By O52 the byte above the new stack top, which a pull takes, is the one pushed; A and the flags are as before. -/
theorem exec_push_leaves_byte {i : Instr} {v : Byte} (h : Memory.wf st.mem = true)
    (hi : i = .pha ∧ v = st.a ∨ i = .php ∧ v = statusByte st.flags) :
    ∃ t, exec i st = .next t ∧ t.s + 1 = st.s ∧ t.peek (page1 (t.s + 1)) = v ∧ t.a = st.a ∧ t.flags = st.flags := by
  obtain ⟨-, -, hpush⟩ := pushesOfAccumulatorAndStatus
  obtain ⟨t, hx, ht, hpeek⟩ := hpush st i v hi
  have hs : t.s + 1 = st.s := by
    rw [ht]
    exact sub_add_cancel st.s 1
  refine ⟨t, hx, hs, ?_, ?_, ?_⟩
  · rw [hs, hpeek h, if_pos rfl]
  · rw [ht]
    rfl
  · rw [ht]
    rfl

/-- Settles O54: by O53 the pull takes the byte `exec_push_leaves_byte` speaks of. -/
theorem pullsUndoPushes : Obligations.PullsUndoPushes := by
  refine fun st h => ⟨?_, ?_⟩
  · obtain ⟨t, hx, hs, hv, -, hf⟩ := exec_push_leaves_byte st h (.inl ⟨rfl, rfl⟩)
    refine ⟨t, _, hx, exec_pla t.fetched, hv, hs, ?_⟩
    rw [State.fetched_peek, State.fetched_s, State.fetched_flags, hv, hf]
  · obtain ⟨t, hx, hs, hv, ha, hf⟩ := exec_push_leaves_byte st h (.inr ⟨rfl, rfl⟩)
    refine ⟨t, _, hx, exec_plp t.fetched, ?_, hs, ha⟩
    rw [State.fetched_peek, State.fetched_s, State.fetched_flags, hv, hf, fromStatusByte_statusByte]

/-! ## Transfers and flags -/

/-- Settles O55: a register moved in the one cycle after the opcode fetch. -/
theorem transfersMoveRegisters : Obligations.TransfersMoveRegisters := by
  refine ⟨⟨rfl, rfl, rfl, rfl, rfl, rfl⟩, onlyNmos151_of_not_mem (by decide) (by decide), fun st => ?_⟩
  simp only [← tick_eq_spent, ← setZN_eq_withZN]
  exact ⟨rfl, rfl, rfl, rfl, rfl, rfl⟩

/-- Settles O56: a flag written in the one cycle after the opcode fetch. -/
theorem flagInstructionsWriteOneFlag : Obligations.FlagInstructionsWriteOneFlag := by
  refine ⟨⟨rfl, rfl, rfl, rfl, rfl, rfl, rfl⟩, onlyNmos151_of_not_mem (by decide) (by decide), fun st => ?_⟩
  simp only [← tick_eq_spent]
  exact ⟨rfl, rfl, rfl, rfl, rfl, rfl, rfl⟩

end Sys2Proof.Machine
end

section
/-! SUPPORT. The checks of a step and the ways it ends (60_exceptions.md R300 to R305). -/

namespace Sys2Proof.Machine

open Sys2Proof.Statements

variable {i : Instr} {st t : State}

/-! ## The handler -/

/-- ADC and SBC with D = 1 under DECIMAL_MODE = refuse (R303). -/
theorem exec_refused (hm : i.mnemonic = .ADC ∨ i.mnemonic = .SBC) (hd : st.flags.d = true)
    (hr : st.cfg.decimalMode = .refuse) : exec i st = .refused .decimalRefused := by
  obtain hm | hm := hm
  · rw [exec_ADC_spent hm]
    exact addWithCarry_refused hd hr
  · rw [exec_SBC_spent hm]
    exact subWithBorrow_refused hd hr

/-- Settles O12: `exec_next_or_refused` has the two ways to end, and its condition is the refusal's. -/
theorem handlersCompleteUnlessDecimalIsRefused : Obligations.HandlersCompleteUnlessDecimalIsRefused := by
  intro i st
  split
  · next hc =>
    obtain ⟨hm, hd, hr⟩ := hc
    exact exec_refused hm hd hr
  · next hc =>
    obtain hn | ⟨hm, hd, hr, -⟩ := exec_next_or_refused i st
    · exact hn
    · exact absurd ⟨hm, hd, hr⟩ hc

/-! ## The step -/

/-- Before the first Reset nothing runs (70_reset_and_hazards.md R334). -/
theorem step_of_not_reset (hr : st.resetDone = false) : step st = .refused .notReset := by
  rw [step, engineStep, hr]
  rfl

/-- With the checks before it passed, the step stops where nothing is decoded (R301). -/
theorem step_of_decodeAt_ne_ok (hr : st.resetDone = true) (hc : 0 < st.cycles)
    (hd : ∀ i rest, decodeAt st ≠ .ok (i, rest)) : step st = .fault (.unknownOpcode (st.peek st.pc) st.pc) := by
  cases he : decodeAt st with
  | error e => exact step_of_decodeAt_error hr hc he
  | ok r => exact absurd he (hd r.1 r.2)

/-- Settles O11: one lemma per check, and the handler that passes them all goes on or is refused. -/
theorem stepChecksInOrder : Obligations.StepChecksInOrder := by
  refine fun st => ⟨step_of_not_reset, step_of_cycles_nonpos, step_of_decodeAt_ne_ok, fun i rest hr hc hd => ?_⟩
  rw [step_of_decodeAt_ok hr hc hd]
  exact (exec_next_or_refused i st.fetched).imp_right fun ⟨_, _, _, hx⟩ => hx

/-! ## Runs -/

/-- No step changes `reset_done` or the parameters, so no run does. -/
theorem Reaches.keeps_resetDone_cfg (h : Reaches st t) : t.resetDone = st.resetDone ∧ t.cfg = st.cfg := by
  induction h with
  | refl => exact ⟨rfl, rfl⟩
  | tail _ hstep ih =>
    obtain ⟨hcfg, hdone, -⟩ := stepsKeepParametersMarkerAndB _ _ hstep
    exact ⟨hdone.trans ih.1, hcfg.trans ih.2⟩

/-- After Reset a step can be refused in decimal mode only, under DECIMAL_MODE = refuse (R303, R305). -/
theorem stepSafe_of_reset_nmos (hr : st.resetDone = true) (hm : st.cfg.decimalMode = .nmos) : st.StepSafe := by
  intro r h
  obtain hc | hc := le_or_gt st.cycles 0
  · cases (step_of_cycles_nonpos hr hc).symm.trans h
  · obtain ⟨t, hn⟩ | ⟨op, a, hn⟩ | ⟨hm', -⟩ := step_of_cycles_pos hr hc
    · cases hn.symm.trans h
    · cases hn.symm.trans h
    · cases hm.symm.trans hm'

/-- Settles O13: what makes a step safe is kept along the run. -/
theorem resetNmosRunsAreNeverRefused : Obligations.ResetNmosRunsAreNeverRefused := by
  intro st t hr hm hrun
  obtain ⟨hdone, hcfg⟩ := hrun.keeps_resetDone_cfg
  exact stepSafe_of_reset_nmos (hdone.trans hr) ((congrArg Config.decimalMode hcfg).trans hm)

/-! ## The call -/

/-- Settles O19: the loop's first pass finds the opcode unknown, with one cycle of the budget gone for its fetch. -/
theorem unknownOpcodeLeavesTheFetchAlone : Obligations.UnknownOpcodeLeavesTheFetchAlone := by
  intro budget st hr hb hd
  have hstep : step (st.startExecute budget) = .fault (.unknownOpcode (st.peek st.pc) st.pc) :=
    step_of_decodeAt_ne_ok hr (Int.natCast_pos.2 hb) hd
  have hone : (budget : Int) - (st.startExecute budget).fetched.cycles = 1 := Int.sub_sub_self _ _
  rw [execute, executeLoop_of_unknownOpcode hstep, hone]
  rfl

end Sys2Proof.Machine
end

section
/-! SUPPORT. Moving the cycle counter commutes with every operation of the machine: no instruction reads it
(60_exceptions.md R309). -/

namespace Sys2Proof.Machine

open Sys2Proof.Statements

/-- The same machine with the counter moved by `k`. -/
def State.addCycles (k : Int) (st : State) : State := { st with cycles := st.cycles + k }

variable (k : Int) (st : State)

/-- Two states that differ in nothing but the counter, and in that by `k`. -/
theorem eq_addCycles {t u : State} (hrest : t = { u with cycles := t.cycles }) (hc : t.cycles = u.cycles + k) :
    t = u.addCycles k :=
  hrest.trans (congrArg (fun c => { u with cycles := c }) hc)

/-! ## Operands -/

theorem resolve_addCycles_fst (m : AddrMode) (a : Access) :
    (resolve m a (st.addCycles k)).1 = (resolve m a st).1 := by
  cases m <;> rfl

theorem resolveCost_addCycles (m : AddrMode) (a : Access) :
    resolveCost m a (st.addCycles k) = resolveCost m a st := by
  cases m <;> rfl

theorem loadMem_addCycles (m : AddrMode) :
    loadMem m (st.addCycles k) = ((loadMem m st).1, (loadMem m st).2.addCycles k) := by
  rw [loadMem_eq, loadMem_eq, resolve_addCycles_fst, resolveCost_addCycles]
  exact Prod.ext rfl (eq_addCycles k rfl (by simp only [State.addCycles]; omega))

theorem readOf_addCycles (m : Mode) :
    readOf m (st.addCycles k) = ((readOf m st).1, (readOf m st).2.addCycles k) := by
  cases m with
  | imm v => exact Prod.ext rfl (eq_addCycles k rfl (add_sub_right_comm ..))
  | mem m => exact loadMem_addCycles k st m
  | _ => rfl

theorem storeOf_addCycles (m : Mode) (v : Byte) :
    storeOf m v (st.addCycles k) = (storeOf m v st).addCycles k := by
  cases m with
  | mem m =>
    simp only [storeOf, storeOperand_eq, resolve_addCycles_fst, resolveCost_addCycles]
    exact eq_addCycles k rfl (by simp only [State.addCycles]; omega)
  | _ => rfl

theorem modifyOf_addCycles (m : Mode) (f : Byte → Flags → Byte × Flags) :
    modifyOf m f (st.addCycles k) = (modifyOf m f st).addCycles k := by
  cases m with
  | acc => exact eq_addCycles k rfl (add_sub_right_comm ..)
  | mem m =>
    simp only [modifyOf, modifyMem_eq, resolve_addCycles_fst, resolveCost_addCycles]
    exact eq_addCycles k rfl (by simp only [State.addCycles]; omega)
  | _ => rfl

/-! ## The meanings that decide something: decimal arithmetic and branches -/

theorem addWithCarry_addCycles (r : Byte × State) :
    addWithCarry (r.1, r.2.addCycles k) = mapNext (State.addCycles k) (addWithCarry r) := by
  cases hd : r.2.flags.d with
  | false => simp [addWithCarry, State.addCycles, mapNext, hd]
  | true => cases hm : r.2.cfg.decimalMode <;> simp [addWithCarry, State.addCycles, mapNext, hd, hm]

theorem subWithBorrow_addCycles (r : Byte × State) :
    subWithBorrow (r.1, r.2.addCycles k) = mapNext (State.addCycles k) (subWithBorrow r) := by
  cases hd : r.2.flags.d with
  | false => simp [subWithBorrow, State.addCycles, mapNext, hd]
  | true => cases hm : r.2.cfg.decimalMode <;> simp [subWithBorrow, State.addCycles, mapNext, hd, hm]

theorem branchIf_addCycles (cond : Bool) (off : Byte) :
    branchIf cond off (st.addCycles k) = (branchIf cond off st).addCycles k := by
  cases cond with
  | false => exact eq_addCycles k rfl (add_sub_right_comm ..)
  | true =>
    rw [branchIf_taken, branchIf_taken]
    exact eq_addCycles k rfl (add_sub_right_comm ..)

/-! ## JSR and BRK: the pushes -/

theorem jumpSubroutine_addCycles (w : Word) :
    jumpSubroutine w (st.addCycles k) = (jumpSubroutine w st).addCycles k := by
  simp only [jumpSubroutine_eq, push_eq]
  exact eq_addCycles k rfl (by simp only [State.addCycles]; omega)

theorem fetched_addCycles : (st.addCycles k).fetched = st.fetched.addCycles k :=
  eq_addCycles k rfl (add_sub_right_comm ..)

theorem breakFrame_addCycles : breakFrame (st.addCycles k) = breakFrame st := by
  simp only [breakFrame, push_eq, State.addCycles]

theorem takeBreak_addCycles : takeBreak (st.addCycles k) = (takeBreak st).addCycles k := by
  rw [takeBreak_eq, takeBreak_eq, breakFrame_addCycles]
  exact eq_addCycles k rfl (by simp only [State.addCycles]; omega)

/-! ## Every instruction -/

variable {i : Instr}

/-- What follows the read is a function of the operand and of a state, and does not look at the counter. -/
theorem exec_addCycles_of_reader (h : readsOperand i.mnemonic = true) :
    exec i (st.addCycles k) = mapNext (State.addCycles k) (exec i st) := by
  cases hm : i.mnemonic
  case ADC => rw [exec_ADC _ hm, exec_ADC _ hm, readOf_addCycles, addWithCarry_addCycles]
  case SBC => rw [exec_SBC _ hm, exec_SBC _ hm, readOf_addCycles, subWithBorrow_addCycles]
  case LDA | LDX | LDY | AND | ORA | EOR | CMP | CPX | CPY | BIT =>
    simp only [exec_LDA, exec_LDX, exec_LDY, exec_AND, exec_ORA, exec_EOR, exec_CMP, exec_CPX, exec_CPY, exec_BIT,
      hm, readOf_addCycles]
    rfl
  all_goals rw [hm] at h; cases h

/-- The stores, and the instructions that modify A or a byte of memory. -/
theorem exec_addCycles_of_writer (h : writesAddressed i.mnemonic = true ∨ isShift i.mnemonic = true) :
    exec i (st.addCycles k) = mapNext (State.addCycles k) (exec i st) := by
  cases hm : i.mnemonic
  case STA | STX | STY | INC | DEC | ASL | LSR | ROL | ROR =>
    simp only [exec_STA, exec_STX, exec_STY, exec_INC, exec_DEC, exec_ASL, exec_LSR, exec_ROL, exec_ROR, hm,
      storeOf_addCycles, modifyOf_addCycles]
    rfl
  all_goals simp [hm, writesAddressed, isShift] at h

theorem exec_addCycles_of_controlTransfer (h : i.mnemonic ∈ controlTransfers) :
    exec i (st.addCycles k) = mapNext (State.addCycles k) (exec i st) := by
  cases i
  case bpl | bmi | bvc | bvs | bcc | bcs | bne | beq =>
    exact congrArg Host.Outcome.next (branchIf_addCycles k st _ _)
  case brk =>
    refine congrArg Host.Outcome.next ?_
    rw [fetched_addCycles]
    exact takeBreak_addCycles k st.fetched
  case jsr => exact congrArg Host.Outcome.next (jumpSubroutine_addCycles k st _)
  case jmpAbs | jmpInd | rts | rti =>
    refine congrArg Host.Outcome.next (eq_addCycles k rfl ?_)
    simp only [indirectTarget_eq, returnSubroutine_eq, returnFromBreak_eq, State.fetchedWord_cycles, State.tick_cycles,
      State.addCycles]
    omega
  all_goals simp [Instr.mnemonic, Instr.form, controlTransfers] at h

/-- These go one way whatever the state, billing a fixed number of cycles. -/
theorem exec_addCycles_of_implied (h : isImplied i.mnemonic = true) :
    exec i (st.addCycles k) = mapNext (State.addCycles k) (exec i st) := by
  cases i <;> cases h
  all_goals
    refine congrArg Host.Outcome.next (eq_addCycles k rfl ?_)
    simp only [State.tick, setX, setY, transferA, transferX, transferY, push_eq, pullA_eq, pullP_eq, State.addCycles]
    omega

/-- Settles O17: moving the counter commutes with the handler of each kind of instruction. -/
theorem noInstructionReadsTheCounter : Obligations.NoInstructionReadsTheCounter := by
  intro i st k
  obtain h | h | h | h | h := kind_of_mnemonic i.mnemonic
  · exact exec_addCycles_of_reader k st h
  · exact exec_addCycles_of_writer k st (.inl h)
  · exact exec_addCycles_of_writer k st (.inr h)
  · exact exec_addCycles_of_controlTransfer k st h
  · exact exec_addCycles_of_implied k st h

end Sys2Proof.Machine
end

section
/-! SUPPORT. Reset and the refusal before it (70_reset_and_hazards.md R330, R334), and two Execute calls one after the
other (R341). -/

namespace Sys2Proof.Machine

open Sys2Proof.Statements

variable {st t mid : State} {b b1 b2 fuel fuel' : Nat} {r : ExecuteResult}

/-! ## Reset -/

/-- Settles O7: Reset writes the table as it stands, and memory without a listed byte reads 0. -/
theorem resetLeavesTheStatedValues : Obligations.ResetLeavesTheStatedValues :=
  ⟨fun _ => ⟨rfl, rfl, rfl, rfl, rfl, rfl, rfl, fun a => Memory.read_nil a.toNat, rfl⟩, fun _ => rfl⟩

theorem execute_of_not_reset (hr : st.resetDone = false) : execute b st = some (.refused .notReset) :=
  executeLoop_of_refused (step_of_not_reset (st := st.startExecute b) hr)

theorem hostRegisters_of_not_reset (hr : st.resetDone = false) : st.hostRegisters = none := by
  rw [State.hostRegisters, hr]
  rfl

/-- Settles O20: the call's first pass is refused, and inspection shows nothing. -/
theorem executeBeforeResetIsRefused : Obligations.ExecuteBeforeResetIsRefused :=
  ⟨fun _ _ hr => ⟨execute_of_not_reset hr, hostRegisters_of_not_reset hr⟩, fun _ _ => rfl⟩

/-- Every call ends: before the first Reset refused, and after it by O15. -/
theorem execute_ends (b : Nat) (st : State) : ∃ r, execute b st = some r := by
  cases hr : st.resetDone with
  | false => exact ⟨_, execute_of_not_reset hr⟩
  | true =>
    obtain ⟨_, _, _, hx, -⟩ | ⟨-, hx⟩ := executeReturnsWithinTheOverrun b st hr
    · exact ⟨_, hx⟩
    · exact ⟨_, hx⟩

/-! ## One pass -/

/-- A step that goes on had cycles left, so it goes on alike with more of them. -/
theorem step_addCycles (h : step st = .next t) (n : Nat) : step (st.addCycles n) = .next (t.addCycles n) := by
  obtain ⟨hr, hc, i, rest, hd, hx⟩ := step_next h
  have hpos : 0 < (st.addCycles n).cycles := Int.add_pos_of_pos_of_nonneg hc (Int.natCast_nonneg n)
  have hexec : exec i (st.fetched.addCycles n) = mapNext (State.addCycles n) (exec i st.fetched) :=
    noInstructionReadsTheCounter i st.fetched n
  rw [step_of_decodeAt_ok (st := st.addCycles n) hr hpos hd, fetched_addCycles, hexec, hx]
  rfl

/-- The first pass of a loop that ends on BudgetExhausted goes on, or is the end. -/
theorem executeLoop_budgetExhausted_cases {c : Int}
    (h : executeLoop b (fuel + 1) st = some (.returned c .budgetExhausted mid)) :
    (∃ t, step st = .next t ∧ executeLoop b fuel t = some (.returned c .budgetExhausted mid)) ∨
      (st = mid ∧ c = b - mid.cycles) := by
  cases hs : step st with
  | next t => exact .inl ⟨t, rfl, executeLoop_of_next hs ▸ h⟩
  | fault f =>
    rw [executeLoop, hs] at h
    cases f <;> cases h
    exact .inr ⟨rfl, rfl⟩
  | refused q => rw [executeLoop_of_refused hs] at h; cases h

/-! ## The passes allowed and the budget -/

/-- A loop that ends within its passes ends alike when it is allowed more. -/
theorem executeLoop_mono (h : executeLoop b fuel st = some r) (hle : fuel ≤ fuel') :
    executeLoop b fuel' st = some r := by
  induction fuel generalizing st fuel' with
  | zero => cases h
  | succ fuel ih =>
    obtain ⟨fuel', rfl⟩ := Nat.exists_eq_add_one_of_ne_zero (Nat.ne_zero_of_lt hle)
    cases hs : step st with
    | next t =>
      rw [executeLoop_of_next hs] at h ⊢
      exact ih h (Nat.le_of_succ_le_succ hle)
    | fault f =>
      rw [executeLoop, hs] at h ⊢
      cases f <;> exact h
    | refused q => rwa [executeLoop_of_refused hs] at h ⊢

/-- The same end of a call, with `n` more cycles consumed. -/
def ExecuteResult.addConsumed (n : Nat) : ExecuteResult → ExecuteResult
  | .returned consumed outcome final => .returned (n + consumed) outcome final
  | .refused r => .refused r

/-- The loop uses its budget only to count what was consumed. -/
theorem executeLoop_add_budget (b1 b2 fuel : Nat) (st : State) :
    executeLoop (b1 + b2) fuel st = (executeLoop b2 fuel st).map (ExecuteResult.addConsumed b1) := by
  induction fuel generalizing st with
  | zero => rfl
  | succ fuel ih =>
    cases hs : step st with
    | next t => rw [executeLoop_of_next hs, executeLoop_of_next hs, ih]
    | fault f =>
      have hcount (c : Int) : ((b1 + b2 : Nat) : Int) - c = b1 + (b2 - c) := by omega
      cases f <;> simp only [executeLoop, hs, hcount, Option.map_some, ExecuteResult.addConsumed]
    | refused q => rw [executeLoop_of_refused hs, executeLoop_of_refused hs]; rfl

/-! ## Two calls -/

/-- The loop with the cycles of both budgets makes the passes of the first loop, as no step reads the counter; where
that one ended with its budget spent exactly, `b2` cycles are left, which is where the second starts. -/
theorem executeLoop_append (h1 : executeLoop b1 fuel st = some (.returned b1 .budgetExhausted mid))
    (h2 : executeLoop b2 fuel' (mid.startExecute b2) = some r) :
    executeLoop (b1 + b2) (fuel + fuel') (st.addCycles b2) = some (r.addConsumed b1) := by
  induction fuel generalizing st with
  | zero => cases h1
  | succ fuel ih =>
    obtain ⟨t, hs, ht⟩ | ⟨rfl, hc⟩ := executeLoop_budgetExhausted_cases h1
    · rw [Nat.succ_add, executeLoop_of_next (step_addCycles hs b2)]
      exact ih ht
    · have hstart : st.addCycles b2 = st.startExecute b2 :=
        (eq_addCycles b2 rfl (by simp only [State.startExecute]; omega)).symm
      rw [hstart, executeLoop_add_budget, executeLoop_mono h2 (Nat.le_add_left fuel' (fuel + 1))]
      rfl

/-- Settles O16: the two loops one after the other are the loop of the sum with one pass more allowed, and that loop
ends without it. -/
theorem executeOfTwoBudgetsComposes : Obligations.ExecuteOfTwoBudgetsComposes := by
  intro b1 b2 st mid h1
  obtain ⟨r, h2⟩ := execute_ends b2 mid
  obtain ⟨r', hsum⟩ := execute_ends (b1 + b2) st
  have hr : r' = r.addConsumed b1 := by
    have hpasses : b1 + b2 + 1 ≤ b1 + 1 + (b2 + 1) := by omega
    exact Option.some.inj ((executeLoop_mono hsum hpasses).symm.trans (executeLoop_append h1 h2))
  rw [h2, hsum, hr]
  cases r <;> rfl

end Sys2Proof.Machine
end
